-- ==== Sys2Proof/Word.lean ====
section
/-! DEFINITION. The word types of the block (rules R6, R7, R17, R18): plain bit vectors, one name for each
width the spec fixes. Levels of rails, pins and latches are Booleans: OFF and 0 are `false`, ON and 1 are
`true` (rule R7). -/

namespace Sys2Proof

/-- A serial byte, a field of a remote record, an operand of TRANSMIT (rules R7, R18, R50). -/
abbrev Byte := BitVec 8

/-- The 32-bit NEC frame, and the shift register `SR` that holds it (rules R17, R75). -/
abbrev Frame := BitVec 32

/-- A count of burst units, 0..31 (rules R17, R100, R101). -/
abbrev Units := BitVec 5

/-- The timers `OFFT` and `LEDT`, unsigned; 16 bits, the value that rule R6 gives `TIMER_BITS` (rules R13, R14, log entry 22;
the row itself is `Config.timerBits`). -/
abbrev Timer := BitVec 16

/-- The relay hold counter `holdcnt`: 13 bits (rule R17). -/
abbrev HoldCount := BitVec 13

/-- The count of bit slots still to send, `bitcnt`: 6 bits (rule R17). -/
abbrev BitCount := BitVec 6

end Sys2Proof
end

