-- ==== Sys2Proof/Syntax.lean ====
section
/-! DEFINITION. The instructions of the block: one constructor for each row of `spec/opcode_table.json`
(rules R5, R70, R72, R74, R81), the external formats they are read from (rule R70), and the decoded remote
record (rules R18, R47, R73). -/

namespace Sys2Proof

/-- The record the external decoder delivers (rules R18, R47, R73): four fields handed over separately, not a
bit string. -/
structure RcRecord where
  startbits : Byte
  addr : Byte
  cmd : Byte
  toggle : Bool
deriving DecidableEq, Repr, Inhabited

/-- The operations of class `INTERNAL`, which have no opcode (rule R70's list), with the unit counts of the carrier
operations typed 0..31 (rules R100, R101). -/
inductive InternalOp where
  | burst1 (n : Units)
  | burst0 (n : Units)
  | transmitRepeat
  | sampleAmp
  | sampleSrc
  | relayPulse
  | iterate
deriving DecidableEq, Repr, Inhabited

/-- An operation a host asks for between two iterations: those, and only those, that the spec lets a model expose to one
(log entry 9). The other operations of class `INTERNAL` are invoked by operations of the block alone (rule R70). -/
inductive Call where
  /-- `TRANSMIT`, by the frame it is to send, in format `NEC32` (rules R50, R75). -/
  | nec32 (frame : Frame)
  /-- `TRANSMIT_REPEAT` (rule R118, decision D31). -/
  | transmitRepeat
  /-- `BURST1(n)` (rule R104). -/
  | burst1 (n : Units)
  /-- `BURST0(n)` (rule R104). -/
  | burst0 (n : Units)
deriving DecidableEq, Repr, Inhabited

/-- What the decoder reads, one constructor for each way an operation is selected (rule R70). -/
inductive Wire where
  /-- Format `SER8`: the result of `SerialPoll()`, a byte or -1, which is `none` (rules R46, R71). -/
  | ser8 (poll : Option Byte)
  /-- Format `RCREC`: the record of `RcPoll()` (rule R73). -/
  | rcrec (r : RcRecord)
  /-- Format `NEC32`: the 32-bit command frame (rule R75). -/
  | nec32 (frame : Frame)
  /-- Class `INTERNAL`: an operation by its name, since it has no opcode anywhere (rule R70). -/
  | internal (op : InternalOp)
deriving DecidableEq, Repr, Inhabited

/-- What a host's call stands for. -/
def Call.wire : Call → Wire
  | .nec32 f => .nec32 f
  | .transmitRepeat => .internal .transmitRepeat
  | .burst1 n => .internal (.burst1 n)
  | .burst0 n => .internal (.burst0 n)

/-- The four external formats of rule R70, and its class of operations without an encoding. -/
inductive Format where
  /-- One byte from the serial mailbox. -/
  | ser8
  /-- The record from the decoder mailbox. -/
  | rcrec
  /-- The 32-bit command frame and its waveform. -/
  | nec32
  /-- The repeat frame, a waveform with no data bits: it is sent (rules R79, R116) and selects nothing. -/
  | necrpt
  /-- No external encoding. -/
  | internal
deriving DecidableEq, Repr, Inhabited

/-- One constructor for each row of the opcode table, in the table's order. The twelve serial command bytes are
twelve rows; the six rows of rule R74 keep the fields that the row leaves open. -/
inductive Instr where
  /-- `AMP_ON`, serial byte `n` = 0x6E (rules R72, R140). -/
  | serAmpOnLowerN
  /-- `AMP_ON`, serial byte `N` = 0x4E. -/
  | serAmpOnUpperN
  /-- `AMP_ON`, serial byte `1` = 0x31. -/
  | serAmpOnDigit1
  /-- `AMP_OFF`, serial byte `f` = 0x66 (rules R72, R141). -/
  | serAmpOffLowerF
  /-- `AMP_OFF`, serial byte `F` = 0x46. -/
  | serAmpOffUpperF
  /-- `AMP_OFF`, serial byte `0` = 0x30. -/
  | serAmpOffDigit0
  /-- `AMP_OFF_DELAY`, serial byte `d` = 0x64 (rules R72, R143). -/
  | serAmpOffDelayLowerD
  /-- `AMP_OFF_DELAY`, serial byte `D` = 0x44. -/
  | serAmpOffDelayUpperD
  /-- `MUTE`, serial byte `m` = 0x6D (rules R72, R152). -/
  | serMuteLowerM
  /-- `MUTE`, serial byte `M` = 0x4D. -/
  | serMuteUpperM
  /-- `VOLUME_UP`, serial byte `+` = 0x2B (rules R72, R150). -/
  | serVolumeUpPlus
  /-- `VOLUME_DOWN`, serial byte `-` = 0x2D (rules R72, R151). -/
  | serVolumeDownMinus
  /-- `SER_IGNORED`: any other byte, or -1 (`none`) (rule R81). -/
  | serIgnored (poll : Option Byte)
  /-- `VOLUME_UP`, record row 3 of rule R74. -/
  | rcVolumeUp (toggle : Bool)
  /-- `VOLUME_DOWN`, record row 4 of rule R74. -/
  | rcVolumeDown (toggle : Bool)
  /-- `MUTE`, record row 5 of rule R74. -/
  | rcMute (toggle : Bool)
  /-- `RC_UNMAPPED`, record row 6 of rule R74. -/
  | rcUnmapped (cmd : Byte) (toggle : Bool)
  /-- `RC_OTHER_ADDR`, record row 2 of rule R74. -/
  | rcOtherAddr (addr cmd : Byte) (toggle : Bool)
  /-- `RC_MALFORMED`, record row 1 of rule R74. -/
  | rcMalformed (startbits addr cmd : Byte) (toggle : Bool)
  /-- `TRANSMIT(address, command)` (rule R111). -/
  | transmit (address command : Byte)
  /-- `TRANSMIT_REPEAT()` (rule R116). -/
  | transmitRepeat
  /-- `BURST1(n)` (rule R100). -/
  | burst1 (n : Units)
  /-- `BURST0(n)` (rule R101). -/
  | burst0 (n : Units)
  /-- `SAMPLE_AMP()` (rule R130). -/
  | sampleAmp
  /-- `SAMPLE_SRC()` (rule R131). -/
  | sampleSrc
  /-- `RELAY_PULSE()` (rule R142). -/
  | relayPulse
  /-- `ITERATE()` (rule R160). -/
  | iterate
deriving DecidableEq, Repr, Inhabited

end Sys2Proof
end

