-- ==== Sys2Proof/Config.lean ====
section
/-! DEFINITION. The parameters of rule R6, every row a field; the conditions the spec puts on them (rule R232);
and the free values: opaque constants without a body, for what the spec leaves to a free draw or leaves open. -/

namespace Sys2Proof

/-- The wiring of a sense input or of an output (rules R6, R41, R42, decision D5). -/
inductive Polarity where
  | activeHigh
  | activeLow
deriving DecidableEq, Repr, Inhabited

/-- A duration in seconds, as a fraction. -/
structure Seconds where
  num : Nat
  den : Nat
deriving DecidableEq, Repr, Inhabited

/-- The parameter table of rule R6, every row a field. A field with a default is a row whose value the spec gives; a field
without one is a row the spec marks OPEN. `F_CARRIER`, `T_HALF` and `T_UNIT` are annotations (rule R250). The two rows that
the table derives, `T_HALF` and `HP_PER_UNIT`, carry their derivation as a proof (log entry 22). -/
structure Config where
  /-- `F_CARRIER`, in hertz. -/
  fCarrierHz : Nat := 38000
  /-- `T_HALF` = 1/(2 x `F_CARRIER`). -/
  tHalf : Seconds := ⟨1, 2 * fCarrierHz⟩
  /-- `T_UNIT`, in nanoseconds. -/
  tUnitNs : Nat := 562500
  /-- `CYCLES_PER_UNIT` (decision D2). -/
  cyclesPerUnit : Units := 21
  /-- `HP_PER_UNIT` = 2 x `CYCLES_PER_UNIT` (decision D2). -/
  hpPerUnit : Nat := 2 * cyclesPerUnit.toNat
  /-- `LEAD_MARK`. -/
  leadMark : Units := 16
  /-- `LEAD_SPACE`. -/
  leadSpace : Units := 8
  /-- `RPT_SPACE`. -/
  rptSpace : Units := 4
  /-- `BIT_MARK`. -/
  bitMark : Units := 1
  /-- `BIT0_SPACE`. -/
  bit0Space : Units := 1
  /-- `BIT1_SPACE`. -/
  bit1Space : Units := 3
  /-- `END_MARK`. -/
  endMark : Units := 1
  /-- `FRAME_BITS`. -/
  frameBits : BitCount := 32
  /-- `RELAY_HOLD`, in half-periods (decision D26). -/
  relayHold : HoldCount := 7600
  /-- `LED_TICKS` (decision D7). -/
  ledTicks : Timer := 5000
  /-- `TIMER_BITS` (decision D6): the timers hold less than 2 to this power (`Config.legal`, log entry 22). -/
  timerBits : Nat := 16
  /-- `START_BITS_VALID`. -/
  startBitsValid : Byte := 3
  /-- `NEC_ADDR`. -/
  necAddr : Byte := 0x11
  /-- `CMD_MUTE`. -/
  cmdMute : Byte := 0x60
  /-- `CMD_VOL_UP`. -/
  cmdVolUp : Byte := 0x62
  /-- `OFF_DELAY_TICKS`, OPEN (decision D8). -/
  offDelayTicks : Timer
  /-- `CMD_VOL_DOWN`, OPEN (decision D17). -/
  cmdVolDown : Byte
  /-- `REMOTE_ADDR`, OPEN (decision D16). -/
  remoteAddr : Byte
  /-- `RC_VOL_UP`, OPEN (decision D16). -/
  rcVolUp : Byte
  /-- `RC_VOL_DOWN`, OPEN (decision D16). -/
  rcVolDown : Byte
  /-- `RC_MUTE`, OPEN (decision D16). -/
  rcMute : Byte
  /-- `AMP_SENSE_POL`, OPEN (decision D5). -/
  ampSensePol : Polarity
  /-- `SRC_SENSE_POL`, OPEN (decision D5). -/
  srcSensePol : Polarity
  /-- `RELAY_POL`, OPEN (decision D5). -/
  relayPol : Polarity
  /-- `LED_POL`, OPEN (decision D5). -/
  ledPol : Polarity
  /-- `WDT_PERIOD`, external and OPEN (decision D24), in half-periods. -/
  wdtPeriod : Nat
  /-- `ITER_PERIOD`, not fixed (decision D29): the unblocked time of one iteration, in half-periods. -/
  iterPeriod : Nat
  /-- `T_HALF` is derived from `F_CARRIER`. -/
  tHalf_eq : tHalf = ⟨1, 2 * fCarrierHz⟩ := by rfl
  /-- `HP_PER_UNIT` is derived from `CYCLES_PER_UNIT`. -/
  hpPerUnit_eq : hpPerUnit = 2 * cyclesPerUnit.toNat := by rfl
deriving DecidableEq, Repr

/-- The nominal duration of `n` half-periods `T_HALF`, in nanoseconds, rounded down (rules R6, R250). -/
def Config.nominalNsOfHalfPeriods (c : Config) (n : Nat) : Nat := n * c.tHalf.num * 1000000000 / c.tHalf.den

/-- The nominal duration of `n` burst units at `T_UNIT`, in nanoseconds (rules R6, R250). -/
def Config.nominalNsOfUnits (c : Config) (n : Nat) : Nat := n * c.tUnitNs

/-- What rule R232 asks of the parameters: both timer constants at least 1 and within `TIMER_BITS` bits, and the three
remote command values pairwise distinct. -/
def Config.legal (c : Config) : Bool :=
  c.offDelayTicks != 0 && c.ledTicks != 0 &&
    (decide (c.offDelayTicks.toNat < 2 ^ c.timerBits) && decide (c.ledTicks.toNat < 2 ^ c.timerBits)) &&
    (c.rcVolUp != c.rcVolDown && c.rcVolUp != c.rcMute && c.rcVolDown != c.rcMute)

/-- The frame shape that the source fixes exactly: the unit counts and the frame length of rule R6 (the carrier
cycles of a unit are left free, as rule R105 allows). -/
def Config.frameShape (c : Config) : Bool :=
  c.leadMark == 16 && c.leadSpace == 8 && c.rptSpace == 4 && c.bitMark == 1 && c.bit0Space == 1 &&
    c.bit1Space == 3 && c.endMark == 1 && c.frameBits == 32 && c.cyclesPerUnit != 0

/-- The two decided durations of rule R6: 21 carrier cycles a unit and a relay hold of 7600 half-periods
(decisions D2, D26). -/
def Config.decidedTiming (c : Config) : Bool := c.cyclesPerUnit == 21 && c.relayHold == 7600

/-- The rows of rule R6 that are OPEN, with the conditions of rules R232 and R242 carried as proofs. The defaults only show
that such values exist; nothing reads them. -/
structure OpenParams where
  offDelayTicks : Timer := 1
  cmdVolDown : Byte := 0
  remoteAddr : Byte := 0
  rcVolUp : Byte := 0
  rcVolDown : Byte := 1
  rcMute : Byte := 2
  ampSensePol : Polarity := .activeHigh
  srcSensePol : Polarity := .activeHigh
  relayPol : Polarity := .activeHigh
  ledPol : Polarity := .activeHigh
  wdtPeriod : Nat := 304000
  iterPeriod : Nat := 76
  offDelayTicks_ne : offDelayTicks ≠ 0 := by decide
  rcVolUp_ne_rcVolDown : rcVolUp ≠ rcVolDown := by decide
  rcVolUp_ne_rcMute : rcVolUp ≠ rcMute := by decide
  rcVolDown_ne_rcMute : rcVolDown ≠ rcMute := by decide
  /-- The condition of rule R242 on the watchdog's interval: 2 x 7600 + 121 x 42 half-periods of blocking, and the loop. -/
  wdtPeriod_gt : 20282 + iterPeriod < wdtPeriod := by decide
deriving Inhabited

/-- The values of the OPEN parameters of the built device: not in the source, so without a body (log entry 1). -/
opaque Config.openParams : OpenParams

/-- The configuration of the built device: the spec's values, and the open ones left open (log entry 1). -/
def Config.device : Config where
  offDelayTicks := Config.openParams.offDelayTicks
  cmdVolDown := Config.openParams.cmdVolDown
  remoteAddr := Config.openParams.remoteAddr
  rcVolUp := Config.openParams.rcVolUp
  rcVolDown := Config.openParams.rcVolDown
  rcMute := Config.openParams.rcMute
  ampSensePol := Config.openParams.ampSensePol
  srcSensePol := Config.openParams.srcSensePol
  relayPol := Config.openParams.relayPol
  ledPol := Config.openParams.ledPol
  wdtPeriod := Config.openParams.wdtPeriod
  iterPeriod := Config.openParams.iterPeriod

/-- The draw of `AmpPrev` at the `n`-th reset (rule R27, decision D20, log entry 2). -/
opaque Config.freeAmpPrev : Nat → Bool

/-- The draw of `SrcPrev` at the `n`-th reset (rule R27, decision D20, log entry 2). -/
opaque Config.freeSrcPrev : Nat → Bool

/-- The unspecified contents of `ser_lat` after the `n`-th reset (rule R27, log entry 3). -/
opaque Config.freeSerLat : Nat → Option Byte

/-- The unspecified contents of `rc_lat` after the `n`-th reset (rule R27, log entry 3). -/
opaque Config.freeRcLat : Nat → RcRecord

/-- Whether the amplifier answers a relay pulse that the `n`-th reset cut short (rule R233, log entry 14). -/
opaque Config.freeShortPulse : Nat → Bool

end Sys2Proof
end

