-- ==== Sys2Proof/WellFormed.lean ====
section
/-! DEFINITION. Which instructions are well formed under a configuration: the fields that a row of the table leaves
open must not make the word another row's (rules R74, R81). -/

namespace Sys2Proof

/-- The twelve bytes of the serial opcode map (rule R72). -/
def serialCommandBytes : List Byte :=
  [0x6E, 0x4E, 0x31, 0x66, 0x46, 0x30, 0x64, 0x44, 0x6D, 0x4D, 0x2B, 0x2D]

/-- A serial result is ignored when it is no byte or none of the twelve (rule R81). -/
def serialIgnored : Option Byte → Bool
  | none => true
  | some b => !serialCommandBytes.contains b

/-- A command value that row 6 of rule R74 covers: none of the three mapped ones. -/
def Config.unmapped (c : Config) (cmd : Byte) : Bool :=
  cmd != c.rcVolUp && cmd != c.rcVolDown && cmd != c.rcMute

/-- The check: `SER_IGNORED` holds no command byte (rule R81), `RC_UNMAPPED` no mapped command, `RC_OTHER_ADDR` not
the configured address, `RC_MALFORMED` not the valid start-bit count (rule R74). Every other row has no field
that could make it ill formed (rule R83 for `TRANSMIT`, rules R100, R101 for the bursts). -/
def wellFormed (c : Config) : Instr → Bool
  | .serAmpOnLowerN => true
  | .serAmpOnUpperN => true
  | .serAmpOnDigit1 => true
  | .serAmpOffLowerF => true
  | .serAmpOffUpperF => true
  | .serAmpOffDigit0 => true
  | .serAmpOffDelayLowerD => true
  | .serAmpOffDelayUpperD => true
  | .serMuteLowerM => true
  | .serMuteUpperM => true
  | .serVolumeUpPlus => true
  | .serVolumeDownMinus => true
  | .serIgnored p => serialIgnored p
  | .rcVolumeUp _ => true
  | .rcVolumeDown _ => true
  | .rcMute _ => true
  | .rcUnmapped cmd _ => c.unmapped cmd
  | .rcOtherAddr addr _ _ => addr != c.remoteAddr
  | .rcMalformed startbits _ _ _ => startbits != c.startBitsValid
  | .transmit _ _ => true
  | .transmitRepeat => true
  | .burst1 _ => true
  | .burst0 _ => true
  | .sampleAmp => true
  | .sampleSrc => true
  | .relayPulse => true
  | .iterate => true

end Sys2Proof
end

