-- ==== Sys2Proof/Decode.lean ====
section
/-! DEFINITION. The decoder, total on every wire and rejecting by name, and after it the encoder (file 30 of the
spec: rules R70 to R76, R79, R81 to R83). -/

namespace Sys2Proof

/-- Why a wire is no instruction. -/
inductive DecodeError where
  /-- A 32-bit value whose complement bytes are wrong: no operation of the block emits it (rules R75, R83). -/
  | notNecFrame (frame : Frame)
deriving DecidableEq, Repr

/-- The opcode map of format `SER8` (rule R72), one row a byte. -/
def serialTable : List (Byte × Instr) :=
  [(0x6E, .serAmpOnLowerN), (0x4E, .serAmpOnUpperN), (0x31, .serAmpOnDigit1),
   (0x66, .serAmpOffLowerF), (0x46, .serAmpOffUpperF), (0x30, .serAmpOffDigit0),
   (0x64, .serAmpOffDelayLowerD), (0x44, .serAmpOffDelayUpperD),
   (0x6D, .serMuteLowerM), (0x4D, .serMuteUpperM),
   (0x2B, .serVolumeUpPlus), (0x2D, .serVolumeDownMinus)]

/-- Format `SER8`: the whole byte is the opcode; any other byte and -1 are ignored (rules R71, R72, R81). -/
def decodeSerial : Option Byte → Instr
  | none => .serIgnored none
  | some b => (serialTable.lookup b).getD (.serIgnored (some b))

/-- Format `RCREC`: the decision tree of rule R74, start-bit count first, then address, then command; `toggle` is in
no condition. -/
def decodeRecord (c : Config) (r : RcRecord) : Instr :=
  if r.startbits ≠ c.startBitsValid then .rcMalformed r.startbits r.addr r.cmd r.toggle
  else if r.addr ≠ c.remoteAddr then .rcOtherAddr r.addr r.cmd r.toggle
  else if r.cmd = c.rcVolUp then .rcVolumeUp r.toggle
  else if r.cmd = c.rcVolDown then .rcVolumeDown r.toggle
  else if r.cmd = c.rcMute then .rcMute r.toggle
  else .rcUnmapped r.cmd r.toggle

/-- Field `A` of a frame, bits 31..24 (rule R75). -/
def frameA (f : Frame) : Byte := f.extractLsb' 24 8

/-- Field `NA` of a frame, bits 23..16 (rule R75). -/
def frameNA (f : Frame) : Byte := f.extractLsb' 16 8

/-- Field `C` of a frame, bits 15..8 (rule R75). -/
def frameC (f : Frame) : Byte := f.extractLsb' 8 8

/-- Field `NC` of a frame, bits 7..0 (rule R75). -/
def frameNC (f : Frame) : Byte := f.extractLsb' 0 8

/-- A frame the block can emit: each byte followed by its complement (rule R75). -/
def isNecFrame (f : Frame) : Bool := frameNA f == ~~~(frameA f) && frameNC f == ~~~(frameC f)

/-- Format `NEC32`: a frame with right complement bytes is `TRANSMIT` of its two data bytes; any other is rejected by
name (rules R75, R83). -/
def decodeFrame (f : Frame) : Except DecodeError Instr :=
  if isNecFrame f then .ok (.transmit (frameA f) (frameC f)) else .error (.notNecFrame f)

/-- Class `INTERNAL`: the operation named (rule R70). -/
def decodeInternal : InternalOp → Instr
  | .burst1 n => .burst1 n
  | .burst0 n => .burst0 n
  | .transmitRepeat => .transmitRepeat
  | .sampleAmp => .sampleAmp
  | .sampleSrc => .sampleSrc
  | .relayPulse => .relayPulse
  | .iterate => .iterate

/-- The decoder, total on every wire (rule R70). -/
def decode (c : Config) : Wire → Except DecodeError Instr
  | .ser8 p => .ok (decodeSerial p)
  | .rcrec r => .ok (decodeRecord c r)
  | .nec32 f => decodeFrame f
  | .internal op => .ok (decodeInternal op)

/-- The instruction of a table row's word, numbered as the table numbers bits: 8 bits are a serial byte, 32 bits a NEC
frame. A remote record is no bit string (rule R73) and an `INTERNAL` operation has no word (rule R70), so no word
stands for one. -/
def decodeTableWord (nbits w : Nat) : Option Instr :=
  if nbits = 8 then some (decodeSerial (some (BitVec.ofNat 8 w)))
  else if nbits = 32 then (decodeFrame (BitVec.ofNat 32 w)).toOption
  else none

/-- The frame as the encoding writes it: address, its complement, command, its complement, the address in bits 31..24
(rule R75). -/
def frameOfBytes (address command : Byte) : Frame := address ++ ~~~address ++ command ++ ~~~command

/-- The record of a row of rule R74 for the configured address. -/
def ownRecord (c : Config) (cmd : Byte) (toggle : Bool) : RcRecord := ⟨c.startBitsValid, c.remoteAddr, cmd, toggle⟩

/-- The encoder: the wire of a well-formed instruction, from the tables of rules R72, R74, R75. -/
def encode (c : Config) : Instr → Wire
  | .serAmpOnLowerN => .ser8 (some 0x6E)
  | .serAmpOnUpperN => .ser8 (some 0x4E)
  | .serAmpOnDigit1 => .ser8 (some 0x31)
  | .serAmpOffLowerF => .ser8 (some 0x66)
  | .serAmpOffUpperF => .ser8 (some 0x46)
  | .serAmpOffDigit0 => .ser8 (some 0x30)
  | .serAmpOffDelayLowerD => .ser8 (some 0x64)
  | .serAmpOffDelayUpperD => .ser8 (some 0x44)
  | .serMuteLowerM => .ser8 (some 0x6D)
  | .serMuteUpperM => .ser8 (some 0x4D)
  | .serVolumeUpPlus => .ser8 (some 0x2B)
  | .serVolumeDownMinus => .ser8 (some 0x2D)
  | .serIgnored p => .ser8 p
  | .rcVolumeUp t => .rcrec (ownRecord c c.rcVolUp t)
  | .rcVolumeDown t => .rcrec (ownRecord c c.rcVolDown t)
  | .rcMute t => .rcrec (ownRecord c c.rcMute t)
  | .rcUnmapped cmd t => .rcrec (ownRecord c cmd t)
  | .rcOtherAddr addr cmd t => .rcrec ⟨c.startBitsValid, addr, cmd, t⟩
  | .rcMalformed startbits addr cmd t => .rcrec ⟨startbits, addr, cmd, t⟩
  | .transmit a k => .nec32 (frameOfBytes a k)
  | .transmitRepeat => .internal .transmitRepeat
  | .burst1 n => .internal (.burst1 n)
  | .burst0 n => .internal (.burst0 n)
  | .sampleAmp => .internal .sampleAmp
  | .sampleSrc => .internal .sampleSrc
  | .relayPulse => .internal .relayPulse
  | .iterate => .internal .iterate

/-- The format of a wire (rule R70). -/
def Wire.format : Wire → Format
  | .ser8 _ => .ser8
  | .rcrec _ => .rcrec
  | .nec32 _ => .nec32
  | .internal _ => .internal

/-- The format by which an operation is selected (rule R70, whose class `INTERNAL` has `TRANSMIT_REPEAT` in its list). -/
def Instr.format : Instr → Format
  | .serAmpOnLowerN => .ser8
  | .serAmpOnUpperN => .ser8
  | .serAmpOnDigit1 => .ser8
  | .serAmpOffLowerF => .ser8
  | .serAmpOffUpperF => .ser8
  | .serAmpOffDigit0 => .ser8
  | .serAmpOffDelayLowerD => .ser8
  | .serAmpOffDelayUpperD => .ser8
  | .serMuteLowerM => .ser8
  | .serMuteUpperM => .ser8
  | .serVolumeUpPlus => .ser8
  | .serVolumeDownMinus => .ser8
  | .serIgnored _ => .ser8
  | .rcVolumeUp _ => .rcrec
  | .rcVolumeDown _ => .rcrec
  | .rcMute _ => .rcrec
  | .rcUnmapped _ _ => .rcrec
  | .rcOtherAddr _ _ _ => .rcrec
  | .rcMalformed _ _ _ _ => .rcrec
  | .transmit _ _ => .nec32
  | .transmitRepeat => .internal
  | .burst1 _ => .internal
  | .burst0 _ => .internal
  | .sampleAmp => .internal
  | .sampleSrc => .internal
  | .relayPulse => .internal
  | .iterate => .internal

/-- The `format` column of an instruction's row of the opcode table: as `Instr.format`, but for `TRANSMIT_REPEAT`, whose row
names the format that it emits (rules R79, R116). -/
def Instr.tableFormat (i : Instr) : Format := if i = .transmitRepeat then .necrpt else i.format

end Sys2Proof
end

