-- ==== Sys2Proof/Machine/State.lean ====
section
/-! DEFINITION. The state of the machine: every register, latch and working register that file 10 of the spec
names, the state outside the block that decides what it reads (rule R23), the output trace (rule R9), the
reasons a step can stop, and the state after reset (rule R27). -/

namespace Sys2Proof.Machine

/-- The position in the loop (rule R16): about to perform step 1 .. step 7, or inside a blocking operation. -/
inductive Phase where
  | p1 | p2 | p3 | p4 | p5 | p6 | p7 | busy
deriving DecidableEq, Repr, Inhabited

/-- The step that called the blocking operation (rule R16): the only four that can block. -/
inductive Ret where
  | p3 | p4 | p5 | p7
deriving DecidableEq, Repr, Inhabited

/-- The transmitter's position in a frame, `txstate` (rule R17). -/
inductive TxState where
  | idle | leadMark | leadSpace | bitMark | bitSpace | endMark
deriving DecidableEq, Repr, Inhabited

/-- What a log event says: the six tags of rule R24, with the values of rule R26. -/
inductive LogEntry where
  | ampState (level : Bool)
  | alreadyOn
  | alreadyOff
  | malformed (startbits : Byte)
  | rcUnmapped (cmd : Byte)
  | rcOtherAddr (addr cmd : Byte)
deriving DecidableEq, Repr

/-- The event alphabet of the output trace (rule R9). -/
inductive Event where
  /-- `Ir(b, n)`: the infrared pin held at level `b` for `n` half-periods. -/
  | ir (level : Bool) (n : Nat)
  /-- `Relay(b)`. -/
  | relay (active : Bool)
  /-- `Hold(n)`: `n` half-periods of a relay pulse, all outputs unchanged. -/
  | hold (n : Nat)
  /-- `Led(b)`. -/
  | led (lit : Bool)
  /-- `WdtKick`. -/
  | wdtKick
  /-- `RcRearm`. -/
  | rcRearm
  /-- `Log(tag, info)`. -/
  | log (entry : LogEntry)
deriving DecidableEq, Repr

/-- The conditions of the error taxonomy (rules R200 to R203). -/
inductive Condition where
  /-- `Malformed`: a record with a wrong start-bit count (rule R200). -/
  | malformed (startbits : Byte)
  /-- `Redundant`: the amplifier already has the level asked for (rule R201). -/
  | redundant (level : Bool)
  /-- `Hang`: the watchdog was not serviced within its period (rule R202). -/
  | hang
deriving DecidableEq, Repr

/-- The external decoder as the block sees it (rules R23(b), R47, R48, R231): initialised or not, free to accept a
frame or not, and the completed record that no poll has reported yet. -/
structure Decoder where
  initialised : Bool
  armed : Bool
  slot : Option RcRecord
deriving DecidableEq, Repr, Inhabited

/-- What the outside world does between two steps; a field that is `none` leaves its part as it is (rules R23, R46,
R47, log entry 7). -/
structure Stimulus where
  /-- The new physical level of the `AMP_SENSE` pin. -/
  ampPin : Option Bool := none
  /-- The new physical level of the `SRC_SENSE` pin. -/
  srcPin : Option Bool := none
  /-- The amplifier's new power state, when something else than the relay changes it. -/
  ampPower : Option Bool := none
  /-- The serial mailbox's new content, whatever the receiver did with the old one (rule R46). -/
  serial : Option (Option Byte) := none
  /-- The decoder mailbox's new content; only an armed decoder takes it (rule R48). -/
  record : Option (Option RcRecord) := none
  /-- The operation a host asks for (rules R50, R104, R118, decision D31). -/
  hostCall : Option Call := none
  /-- `rst` will be asserted so many half-periods from now (rule R204). -/
  rst : Option Nat := none
  /-- The half-periods that the external collaborators take in the next step (rules R202, R242). -/
  stall : Nat := 0
deriving DecidableEq, Repr, Inhabited

/-- The state outside the block (rule R23), and what will happen there. -/
structure World where
  /-- Physical level of the `AMP_SENSE` pin (rule R41). -/
  ampPin : Bool
  /-- Physical level of the `SRC_SENSE` pin (rule R41): the source device's power state (rule R23(e)). -/
  srcPin : Bool
  /-- The amplifier's real power state (rule R23(d)); no operation of the block reads it. -/
  ampPower : Bool
  /-- The serial mailbox (rules R23(a), R46). -/
  serial : Option Byte
  /-- The decoder and its mailbox (rule R23(b)). -/
  decoder : Decoder
  /-- The watchdog's counter, in half-periods (rule R23(c)). -/
  wdt : Nat
  /-- The moment at which the watchdog's counter passed its period, if it has (model's own, log entry 8). -/
  wdtTrip : Option Nat
  /-- The moment at which `rst` will be asserted, if it will (rule R204). -/
  rstAt : Option Nat
  /-- The half-periods that the external collaborators take in the coming step (rules R202, R242). -/
  stall : Nat
  /-- The operation a host asks for between two iterations (rules R50, R104, R118, decision D31); it waits over a reset, DESIGN CHOICE (log
  entry 24). -/
  hostCall : Option Call
  /-- What the world does after the coming step, and after each one that follows; nothing when the list has ended. -/
  pending : List Stimulus
deriving DecidableEq, Repr, Inhabited

/-- The machine: configuration, block and world. -/
structure State where
  /-- The hard-wired parameters (rules R6, R20); no operation writes them. -/
  cfg : Config
  /-- `AmpPrev`, x[0] (rule R11). -/
  ampPrev : Bool
  /-- `SrcPrev`, x[1] (rule R12). -/
  srcPrev : Bool
  /-- `OFFT`, x[2] (rule R13). -/
  offt : Timer
  /-- `LEDT`, x[3] (rule R14). -/
  ledt : Timer
  /-- Output latch `ir_out` (rule R15). -/
  irOut : Bool
  /-- Output latch `relay` (rule R15). -/
  relay : Bool
  /-- Output latch `led` (rule R15). -/
  led : Bool
  /-- `phase` (rule R16). -/
  phase : Phase
  /-- `ret` (rule R16). -/
  ret : Ret
  /-- `SR` (rule R17). -/
  sr : Frame
  /-- `bitcnt` (rule R17). -/
  bitcnt : BitCount
  /-- `unitcnt` (rule R17). -/
  unitcnt : Units
  /-- `cyccnt` (rule R17). -/
  cyccnt : Units
  /-- `half`: `false` in the high half-period of a cycle, `true` in the low one (rule R17). -/
  half : Bool
  /-- `mark` (rule R17). -/
  mark : Bool
  /-- `rpt` (rule R17). -/
  rpt : Bool
  /-- `txstate` (rule R17). -/
  txstate : TxState
  /-- `holdcnt` (rule R17). -/
  holdcnt : HoldCount
  /-- `ser_lat` (rule R18); between two polls it keeps the last one, DESIGN CHOICE (log entry 23). -/
  serLat : Option Byte
  /-- `rc_lat` (rule R18); between two records it keeps the last one, DESIGN CHOICE (log entry 23). -/
  rcLat : RcRecord
  /-- The level that the last SAMPLE operation returned (model's own, log entry 6). -/
  sampled : Bool
  /-- The output trace, oldest event first (rule R9). -/
  trace : List Event
  /-- Half-periods since power-on (decision D1; model's own, log entry 8). -/
  elapsed : Nat
  /-- The number of resets since power-on; it numbers the free draws of rule R27 (model's own, log entry 2). -/
  resets : Nat
  /-- The state outside the block (rule R23). -/
  world : World
deriving DecidableEq, Repr

/-- The reasons to stop with a fault: none. The spec has no operation that can fail, and nothing in this hardware is
stuck or a fault (file 93); both error conditions of the block are logged and the machine goes on (rules R200,
R201). -/
inductive Fault
deriving DecidableEq, Repr

/-- The reasons to refuse. -/
inductive Refusal where
  /-- Raised by `exec` for an instruction without a meaning; safe, since nothing follows. No arm raises it. -/
  | notModelled (mnemonic : String)
  /-- Raised by `step` when a host asks, in format `NEC32`, for a 32-bit value that is no NEC frame: the block has no
  means to emit one (rule R83). Safe: no run of the block contains it. -/
  | hostFrameNotNec (frame : Frame)
deriving DecidableEq, Repr

/-- The decoder after its initialise-once call: armed, no record pending (rules R27, R231). -/
def Decoder.initial : Decoder := { initialised := true, armed := true, slot := none }

/-- The outside world when power comes on: a free input, without a body (rule R23, log entry 5). -/
opaque worldAtPowerOn : World

/-- The block right after the `n`-th reset (the table of rule R27), in the world `w`, with the trace and the time so
far. -/
def State.afterReset (c : Config) (n : Nat) (w : World) (trace : List Event) (elapsed : Nat) : State where
  cfg := c
  ampPrev := Config.freeAmpPrev n
  srcPrev := Config.freeSrcPrev n
  offt := 0
  ledt := 0
  irOut := false
  relay := false
  led := false
  phase := .p1
  ret := .p3
  sr := 0
  bitcnt := 0
  unitcnt := 0
  cyccnt := 0
  half := false
  mark := false
  rpt := false
  txstate := .idle
  holdcnt := 0
  serLat := Config.freeSerLat n
  rcLat := Config.freeRcLat n
  sampled := false
  trace := trace
  elapsed := elapsed
  resets := n
  world := { w with decoder := Decoder.initial, wdt := 0, wdtTrip := none, rstAt := none }

/-- The machine right after power-on reset: rule R27, in a free world. -/
def State.reset : State := State.afterReset Config.device 0 worldAtPowerOn [] 0

end Sys2Proof.Machine
end

