-- ==== Sys2Proof/Machine/Flags.lean ====
section
/-! DEFINITION. The predicates of the block (rule R19). None is stored; each is computed from a sample and a register
and used in the same step. -/

namespace Sys2Proof.Machine

/-- `amp_change`: the sample differs from `AmpPrev` (rules R19, R133, R162). -/
def ampChange (ampPrev sample : Bool) : Bool := sample != ampPrev

/-- `src_rise`: previous sample OFF, this sample ON (rules R19, R133, R163). -/
def srcRise (srcPrev sample : Bool) : Bool := !srcPrev && sample

/-- `src_fall`: previous sample ON, this sample OFF (rules R19, R133, R163). -/
def srcFall (srcPrev sample : Bool) : Bool := srcPrev && !sample

/-- `OFFT != 0`: the off-delay is counting (rules R13, R19). -/
def offtRunning (offt : Timer) : Bool := offt != 0

/-- `OFFT = 1`: the off-delay fires (rules R19, R164). -/
def offtFires (offt : Timer) : Bool := offt == 1

/-- `LEDT != 0`: the LED window is counting (rules R14, R19). -/
def ledtRunning (ledt : Timer) : Bool := ledt != 0

/-- `LEDT = 0` after the decrement: the LED window ends (rules R19, R167). -/
def ledtEnds (decremented : Timer) : Bool := decremented == 0

end Sys2Proof.Machine
end

