-- ==== Sys2Proof/Machine/Operands.lean ====
section
/-! DEFINITION. Operand assembly (rule R76), the bits of a frame in sending order (rule R44), levels behind a polarity
(rules R41, R42), and the character test of the serial dispatcher (rules R72, R165). -/

namespace Sys2Proof.Machine

/-- `~8(v)`: the complement on exactly eight bits, `255 - v` (rules R7, R180(a)). -/
def complement8 (v : Byte) : Byte := 255 - v

/-- `NecFrame(address, command)`: the four bytes zero-extended, shifted into place and joined (rules R76, R110). -/
def necFrame (address command : Byte) : Frame :=
  (address.zeroExtend 32 <<< 24) ||| ((complement8 address).zeroExtend 32 <<< 16) |||
    (command.zeroExtend 32 <<< 8) ||| (complement8 command).zeroExtend 32

/-- The bits `F[n-1], ..., F[0]` in the order they are sent (rules R44, R111). -/
def bitsMsbFirst (f : Frame) : Nat → List Bool
  | 0 => []
  | n + 1 => f.getLsbD n :: bitsMsbFirst f n

/-- The logical level of a pin (rule R41), and, the same map, the pin level of a logical value (rule R42). -/
def throughPolarity : Polarity → Bool → Bool
  | .activeHigh, b => b
  | .activeLow, b => !b

/-- The poll returned this ASCII character (rules R46, R72, R165). -/
def pollIs (poll : Option Byte) (ch : Char) : Bool := poll == some (BitVec.ofNat 8 ch.toNat)

end Sys2Proof.Machine
end

