-- ==== Sys2Proof/Machine/Ops.lean ====
section
/-! DEFINITION. The named operations over the state (rule R8): events and waits, ports, mailboxes, service calls,
conditions, the reset as the one event that takes control away (rules R204, R230 to R233), and what the outside
world does around a step. -/

namespace Sys2Proof.Machine

/-! ### Events and time -/

/-- `emit`: append events to the output trace (rules R8, R9). -/
def State.emits (s : State) (es : List Event) : State := { s with trace := s.trace ++ es }

/-- The watchdog's counter after `n` half-periods from the moment `now`; the moment it passes its period is kept
(rules R23(c), R210, log entry 8). -/
def World.tick (w : World) (period now n : Nat) : World :=
  { w with
    wdt := w.wdt + n
    wdtTrip := w.wdtTrip.or (if w.wdt ≤ period ∧ period < w.wdt + n then some (now + (period - w.wdt)) else none) }

/-- `wait n`: `n` half-periods pass (rule R8); only the time and the watchdog's counter move. -/
def State.wait (s : State) (n : Nat) : State :=
  { s with elapsed := s.elapsed + n, world := s.world.tick s.cfg.wdtPeriod s.elapsed n }

/-- The sequencer moves on from step `k` to step `k + 1`, and from step 7 to step 1 (rule R16). -/
def Phase.next : Phase → Phase
  | .p1 => .p2
  | .p2 => .p3
  | .p3 => .p4
  | .p4 => .p5
  | .p5 => .p6
  | .p6 => .p7
  | .p7 => .p1
  | .busy => .busy

/-- `phase <- k` at the end of a step (rules R8, R16). -/
def State.nextPhase (s : State) : State := { s with phase := s.phase.next }

/-- `phase <- p` (rules R8, R16). -/
def State.setPhase (s : State) (p : Phase) : State := { s with phase := p }

/-- `AmpPrev <- v` (rule R8). -/
def State.setAmpPrev (s : State) (v : Bool) : State := { s with ampPrev := v }

/-- `SrcPrev <- v` (rule R8). -/
def State.setSrcPrev (s : State) (v : Bool) : State := { s with srcPrev := v }

/-- `OFFT <- v` (rule R8). -/
def State.setOfft (s : State) (v : Timer) : State := { s with offt := v }

/-- `LEDT <- v` (rule R8). -/
def State.setLedt (s : State) (v : Timer) : State := { s with ledt := v }

/-- The step that a `ret` value names (rule R16). -/
def Ret.phase : Ret → Phase
  | .p3 => .p3
  | .p4 => .p4
  | .p5 => .p5
  | .p7 => .p7

/-- `ret` when an operation blocks in this phase: the calling step, if it is one of the four that can block; a host's
call between iterations leaves `ret` alone (rule R16, log entry 9). -/
def Phase.toRet (p : Phase) (old : Ret) : Ret :=
  match p with
  | .p3 => .p3
  | .p4 => .p4
  | .p5 => .p5
  | .p7 => .p7
  | _ => old

/-! ### Ports -/

/-- `MemRead(AMP_SENSE, 1)`: the logical level of the Amplifier-Power rail (rules R8, R41). -/
def State.ampSense (s : State) : Bool := throughPolarity s.cfg.ampSensePol s.world.ampPin

/-- `MemRead(SRC_SENSE, 1)`: the logical level of the Source-Power rail (rules R8, R41). -/
def State.srcSense (s : State) : Bool := throughPolarity s.cfg.srcSensePol s.world.srcPin

/-- The physical level of the relay pin (rules R15, R42). -/
def State.relayPin (s : State) : Bool := throughPolarity s.cfg.relayPol s.relay

/-- The physical level of the indicator LED's pin (rules R15, R42). -/
def State.ledPin (s : State) : Bool := throughPolarity s.cfg.ledPol s.led

/-- The physical level of the infrared pin: high drives the LED, whatever the wiring (rules R15, R42). -/
def State.irPin (s : State) : Bool := s.irOut

/-- `MemWrite(LED, 1, b)` with its event (rules R42, R167, R170). -/
def State.writeLed (s : State) (b : Bool) : State := { s with led := b, trace := s.trace ++ [.led b] }

/-! ### Mailboxes and service calls -/

/-- `WdtKick()`: the watchdog's count starts again (rules R8, R49, R161). -/
def State.kick (s : State) : State :=
  { s with world := { s.world with wdt := 0 }, trace := s.trace ++ [.wdtKick] }

/-- `SerialPoll()` into `ser_lat`: the byte is consumed (rules R18, R46). That the latch keeps it once step 5 is over, until
the next poll, is the model's choice (DESIGN CHOICE, log entry 23): rule R18 says that it does not survive the iteration
and U13 that its contents then are unobservable. -/
def State.pollSerial (s : State) : State :=
  { s with serLat := s.world.serial, world := { s.world with serial := none } }

/-- What `RcPoll()` reports: the completed record of an initialised decoder that is armed (rules R47, R48, R231). -/
def Decoder.report (d : Decoder) : Option RcRecord := if d.initialised && d.armed then d.slot else none

/-- The decoder after a poll that reported a record: the record is gone, and no new frame is accepted until the re-arm
(rules R48, R54). -/
def Decoder.consumed (d : Decoder) : Decoder := { d with armed := false, slot := none }

/-- The decoder's reset-for-next-frame call (rule R48). -/
def Decoder.rearm (d : Decoder) : Decoder := { d with armed := true }

/-- The decoder's initialise-once call at boot (rules R183, R231). -/
def Decoder.init (_ : Decoder) : Decoder := Decoder.initial

/-- `RcPoll()` that reported `r`: the four fields are copied into `rc_lat` and the record is consumed (rules R18, R47,
decision D14). That the latch keeps them once step 7 is over, until the next record, is the model's choice (DESIGN CHOICE,
log entry 23): U13 calls its contents unobservable then. -/
def State.takeRecord (s : State) (r : RcRecord) : State :=
  { s with rcLat := r, world := { s.world with decoder := s.world.decoder.consumed } }

/-- `RcRearm()` with its event (rules R48, R168). -/
def State.rearm (s : State) : State :=
  { s with world := { s.world with decoder := s.world.decoder.rearm }, trace := s.trace ++ [.rcRearm] }

/-! ### Reset -/

/-- The outputs that a reset forces inactive: an active relay coil and a lit LED are switched off, and the infrared pin
goes low (rules R231(1), R233). -/
def State.forcedOff (s : State) : List Event :=
  (if s.relay then [.relay false] else []) ++ (if s.led then [.led false] else [])

/-- Taking a reset (rules R204, R230, R231, R233): nothing is saved; every register and latch takes the value of rule
R27, with new draws; the decoder is initialised and the watchdog starts at 0; control goes to step 1. The
trace and the time go on, since they are the world's record. The amplifier may or may not have answered a pulse that is
cut short (rule R233, log entry 14). What else stands outside the block stays as it is, a host's call that waits among it: the
spec does not say whether an operation asked for before a reset is still pending after it, and that the model runs it before
step 1 of the new first iteration is a DESIGN CHOICE (log entry 24). There is no return from a reset (rule R205). -/
def State.enterReset (s : State) : State :=
  State.afterReset s.cfg (s.resets + 1)
    { s.world with
      decoder := s.world.decoder.init
      stall := 0
      ampPower := s.world.ampPower ^^ (s.relay && Config.freeShortPulse (s.resets + 1)) }
    (s.trace ++ s.forcedOff) s.elapsed

/-- `raise X(info)` (rules R8, R200 to R202): the two soft conditions are logged and nothing else happens; `Hang` is a
reset. -/
def State.raise (s : State) : Condition → State
  | .malformed n => s.emits [.log (.malformed n)]
  | .redundant true => s.emits [.log .alreadyOn]
  | .redundant false => s.emits [.log .alreadyOff]
  | .hang => s.enterReset

/-! ### The world around a step -/

/-- The world after one stimulus, at the moment `now` (rules R23, R46, R48, log entry 7). -/
def World.absorb (w : World) (now : Nat) (x : Stimulus) : World :=
  { w with
    ampPin := x.ampPin.getD w.ampPin
    srcPin := x.srcPin.getD w.srcPin
    ampPower := x.ampPower.getD w.ampPower
    serial := x.serial.getD w.serial
    decoder := if w.decoder.armed then { w.decoder with slot := x.record.getD w.decoder.slot } else w.decoder
    hostCall := x.hostCall.or w.hostCall
    rstAt := (x.rst.map (now + ·)).or w.rstAt
    stall := x.stall }

/-- Between two steps: the next stimulus, if there is one, is what the world does (log entry 7). -/
def State.advance (s : State) : State :=
  match s.world.pending with
  | [] => s
  | x :: rest => { s with world := { s.world.absorb s.elapsed x with pending := rest } }

/-- The unblocked time of an iteration, charged to step 2 (rule R6 `ITER_PERIOD`, log entry 8). -/
def State.loopTime (s : State) : Nat := if s.phase = .p2 then s.cfg.iterPeriod else 0

/-- The start of a step: the time of the external collaborators and of the loop itself passes (rules R202, R242, log
entry 8). No collaborator is called while an operation is in progress, and its half-periods are exact (rule R249). -/
def State.startStep (s : State) : State :=
  if s.phase = .busy then s
  else { s with world := { s.world with stall := 0 } }.wait (s.world.stall + s.loopTime)

/-- The next moment at which a reset comes, from `rst` or from the watchdog (rules R204, R230). -/
def State.nextReset (s : State) : Option Nat :=
  match s.world.rstAt, s.world.wdtTrip with
  | some a, some b => some (min a b)
  | some a, none => some a
  | none, t => t

/-- A reset is due now (rule R208: a reset beats everything). -/
def State.resetDue (s : State) : Bool :=
  match s.nextReset with
  | some t => decide (t ≤ s.elapsed)
  | none => false

/-- The reset itself, by its cause: the watchdog's is the end of a `Hang` (rule R202), and both are the same event (rule
R204). -/
def State.takeReset (s : State) : State :=
  if s.world.wdtTrip.isSome then s.raise .hang else s.enterReset

/-- The events of a step that a reset cuts off `k` half-periods after its start (rule R233): what is over by then stays,
what is in progress is shortened, the rest is not emitted. Where the cut falls between two half-periods, events that take no
time and stand there are over: at `k` = 0 those before the first half-period are kept, and a part of length 0 leaves no event
(DESIGN CHOICE, log entry 16). -/
def cutEvents : Nat → List Event → List Event
  | _, [] => []
  | k, .ir b n :: es => if n ≤ k then .ir b n :: cutEvents (k - n) es else if k = 0 then [] else [.ir b k]
  | k, .hold n :: es => if n ≤ k then .hold n :: cutEvents (k - n) es else if k = 0 then [] else [.hold k]
  | k, .relay b :: es => .relay b :: cutEvents k es
  | k, .led b :: es => .led b :: cutEvents k es
  | k, .wdtKick :: es => .wdtKick :: cutEvents k es
  | k, .rcRearm :: es => .rcRearm :: cutEvents k es
  | k, .log e :: es => .log e :: cutEvents k es

/-- The relay latch after some events, from its value before them. -/
def relayAfter (b : Bool) : List Event → Bool
  | [] => b
  | .relay v :: es => relayAfter v es
  | _ :: es => relayAfter b es

/-- The LED latch after some events, from its value before them. -/
def ledAfter (b : Bool) : List Event → Bool
  | [] => b
  | .led v :: es => ledAfter v es
  | _ :: es => ledAfter b es

/-- A step from `s` that would have ended in `t` is cut by a reset at the moment `at'` (rule R233, decision D21). While the
collaborators' time still runs, none of the step is done; at the moment when that time is over and the body begins, what the
body does before its first half-period is done: its poll, and its events that take no time (DESIGN CHOICE, log entry 16). -/
def State.cutAt (s t : State) (at' : Nat) : State :=
  if at' < s.startStep.elapsed then
    { s with elapsed := at', world := { s.world with wdtTrip := t.world.wdtTrip } }.takeReset
  else
    let es := cutEvents (at' - s.startStep.elapsed) (t.trace.drop s.trace.length)
    let relay' := relayAfter s.relay es
    { t with
      trace := s.trace ++ es
      elapsed := at'
      relay := relay'
      led := ledAfter s.led es
      world := { t.world with ampPower := if relay' then s.world.ampPower else t.world.ampPower } }.takeReset

/-- The end of a step that began in `s` and ran to `t`: `t`, unless a reset comes before the step is over. -/
def State.conclude (s t : State) : State :=
  if t.resets ≠ s.resets then t
  else
    match t.nextReset with
    | some at' => if at' < t.elapsed then s.cutAt t at' else t
    | none => t

/-- One step of the loop under the reset rules (rules R204, R208): a reset that is due is taken and nothing else is
done; else the collaborators' time passes, the body runs, and a reset that came meanwhile cuts it. -/
def State.under (s : State) (body : State → State) : State :=
  if s.resetDue then s.takeReset else s.conclude (body s.startStep)

end Sys2Proof.Machine
end

