-- ==== Sys2Proof/Machine/Carrier.lean ====
section
/-! DEFINITION. The Carrier Pulse Generator (file 40 of the spec): `BURST1`, `BURST0`. -/

namespace Sys2Proof.Machine

/-- The events of `n` burst-one units: in each, `CYCLES_PER_UNIT` cycles of one high and one low half-period (rules R80,
R100). -/
def burst1Events (c : Config) (n : Nat) : List Event :=
  (List.replicate (n * c.cyclesPerUnit.toNat) [Event.ir true 1, Event.ir false 1]).flatten

/-- The events of `n` burst-zero units: each one low level of `HP_PER_UNIT` half-periods (rules R80, R101). -/
def burst0Events (c : Config) (n : Nat) : List Event := List.replicate n (.ir false c.hpPerUnit)

/-- The generator at rest after a run: the pin low, the counters run out, the cycle counter reloaded (rules R17, R102,
R107). -/
def State.restGenerator (s : State) (marked : Bool) : State :=
  { s with irOut := false, unitcnt := 0, cyccnt := s.cfg.cyclesPerUnit, half := false, mark := marked }

/-- A generator run that is over (rules R100 to R102, R107): its events are out, its time has passed, the pin is low, and
the working counters are as the last unit leaves them. -/
def State.afterBurst (s : State) (marked : Bool) (n : Units) (es : List Event) : State :=
  ((s.emits es).wait (n.toNat * s.cfg.hpPerUnit)).restGenerator marked

/-- `BURST1(n)`: carrier for `n` units, blocking; the pin is low on return (rules R100, R102 to R104). -/
def State.burst1 (s : State) (n : Units) : State := s.afterBurst true n (burst1Events s.cfg n.toNat)

/-- `BURST0(n)`: the pin low for `n` units, blocking (rules R101 to R104). -/
def State.burst0 (s : State) (n : Units) : State := s.afterBurst false n (burst0Events s.cfg n.toNat)

/-- `BURST1(n)` as an operation (rule R100). -/
def execBurst1 (n : Units) (s : State) : Host.Outcome State Fault Refusal := .next (s.burst1 n)

/-- `BURST0(n)` as an operation (rule R101). -/
def execBurst0 (n : Units) (s : State) : Host.Outcome State Fault Refusal := .next (s.burst0 n)

end Sys2Proof.Machine
end

