-- ==== Sys2Proof/Machine/NecTx.lean ====
section
/-! DEFINITION. The NEC Frame Encoder/Transmitter (file 41 of the spec): `TRANSMIT`, `TRANSMIT_REPEAT`. -/

namespace Sys2Proof.Machine

/-- One bit slot: the bit start, and for a 1 the additional space units (rules R78, R111, R113). -/
def State.sendBit (s : State) (b : Bool) : State :=
  let start := (s.burst1 s.cfg.bitMark).burst0 s.cfg.bit0Space
  if b then start.burst0 (s.cfg.bit1Space - s.cfg.bit0Space) else start

/-- The transmitter loaded for a frame, with the step that called it in `ret` (rules R16, R17, R120). -/
def State.loadFrame (s : State) (f : Frame) (bits : BitCount) (repeated : Bool) : State :=
  { s with sr := f, bitcnt := bits, rpt := repeated, txstate := .leadMark, ret := s.phase.toRet s.ret }

/-- The transmitter at rest: the pin forced low, no bit left to send (rules R111, R120). -/
def State.restTransmitter (s : State) (f : Frame) : State :=
  { s with irOut := false, sr := f, bitcnt := 0, txstate := .idle }

/-- `TRANSMIT(address, command)`: lead-in, the frame's bits most significant first, end marker, pin low; blocking, with
no failure outcome (rules R111 to R114, R117, R119). The shift register has shifted every bit out when it is over
(rules R17, R120). -/
def State.transmit (s : State) (address command : Byte) : State :=
  let f := necFrame address command
  let lead := ((s.loadFrame f s.cfg.frameBits false).burst1 s.cfg.leadMark).burst0 s.cfg.leadSpace
  let sent := (bitsMsbFirst f s.cfg.frameBits.toNat).foldl State.sendBit lead
  (sent.burst1 s.cfg.endMark).restTransmitter (f <<< s.cfg.frameBits.toNat)

/-- `TRANSMIT_REPEAT()`: 16 marks, 4 spaces, the end marker, pin low (rules R79, R116, R117); it shifts nothing. -/
def State.transmitRepeat (s : State) : State :=
  let lead := ((s.loadFrame s.sr 0 true).burst1 s.cfg.leadMark).burst0 s.cfg.rptSpace
  (lead.burst1 s.cfg.endMark).restTransmitter s.sr

/-- `TRANSMIT(address, command)` as an operation (rule R111). -/
def execTransmit (address command : Byte) (s : State) : Host.Outcome State Fault Refusal :=
  .next (s.transmit address command)

/-- `TRANSMIT_REPEAT()` as an operation; a host may call it, no step of the loop does (rules R116, R118). -/
def execTransmitRepeat (s : State) : Host.Outcome State Fault Refusal := .next s.transmitRepeat

end Sys2Proof.Machine
end

