-- ==== Sys2Proof/Machine/IrCommands.lean ====
section
/-! DEFINITION. The fixed infrared commands (file 44 of the spec). Each takes the transmitter as an argument, so that
the one that runs whole and the clocked one (Machine/Clock.lean) are one text. -/

namespace Sys2Proof.Machine

/-- `VOLUME_UP()` (rules R85, R150, R153). -/
def State.volumeUp (s : State) (send : State → Byte → Byte → State) : State := send s s.cfg.necAddr s.cfg.cmdVolUp

/-- `VOLUME_DOWN()`, with the open command byte (rules R85, R151, R153). -/
def State.volumeDown (s : State) (send : State → Byte → Byte → State) : State := send s s.cfg.necAddr s.cfg.cmdVolDown

/-- `MUTE()` (rules R85, R152, R153). -/
def State.mute (s : State) (send : State → Byte → Byte → State) : State := send s s.cfg.necAddr s.cfg.cmdMute

end Sys2Proof.Machine
end

