-- ==== Sys2Proof/Machine/PowerSense.lean ====
section
/-! DEFINITION. Power Sensing (file 42 of the spec): `SAMPLE_AMP`, `SAMPLE_SRC`. Each returns a level and writes no
register of the spec; the level it returns stands in `sampled` (log entry 6). -/

namespace Sys2Proof.Machine

/-- `SAMPLE_AMP()`: the logical level of the Amplifier-Power rail now, unfiltered (rules R130, R132). -/
def State.sampleAmp (s : State) : State := { s with sampled := s.ampSense }

/-- `SAMPLE_SRC()`: the logical level of the Source-Power rail now, unfiltered (rules R131, R132). -/
def State.sampleSrc (s : State) : State := { s with sampled := s.srcSense }

/-- `SAMPLE_AMP()` as an operation (rule R130). -/
def execSampleAmp (s : State) : Host.Outcome State Fault Refusal := .next s.sampleAmp

/-- `SAMPLE_SRC()` as an operation (rule R131). -/
def execSampleSrc (s : State) : Host.Outcome State Fault Refusal := .next s.sampleSrc

end Sys2Proof.Machine
end

