-- ==== Sys2Proof/Machine/Relay.lean ====
section
/-! DEFINITION. The Relay Actuator (file 43 of the spec): `RELAY_PULSE`, `AMP_ON`, `AMP_OFF`, `AMP_OFF_DELAY`. The
operations that pulse take the pulse as an argument, so that the operation that runs whole and the clocked one
(Machine/Clock.lean) are one text. -/

namespace Sys2Proof.Machine

/-- The amplifier answers a whole pulse by toggling its power (rule R23(d)); when the sense pin shows it is the world's
affair (rules R146, R147, log entry 7). -/
def World.toggleAmp (w : World) : World := { w with ampPower := !w.ampPower }

/-- The coil released at the end of a hold, and the amplifier's answer (rules R23(d), R142, R144). -/
def State.releaseRelay (s : State) : State :=
  { s with relay := false, holdcnt := 0, ret := s.phase.toRet s.ret, world := s.world.toggleAmp }

/-- `RELAY_PULSE()`: coil active, `RELAY_HOLD` half-periods of busy-wait, coil released; it looks at no input (rules
R142, R144). -/
def State.relayPulse (s : State) : State :=
  ((s.emits [.relay true, .hold s.cfg.relayHold.toNat, .relay false]).wait s.cfg.relayHold.toNat).releaseRelay

/-- `AMP_ON()`: a fresh sample; if the amplifier reads ON the call is redundant, else one pulse; `OFFT` is cleared on
both paths (rules R140, R145, R201). -/
def State.ampOn (s : State) (pulse : State → State) : State :=
  let t := s.sampleAmp
  (if t.sampled then t.raise (.redundant true) else pulse t).setOfft 0

/-- `AMP_OFF()`: the same with the target reversed (rules R141, R145, R201). -/
def State.ampOff (s : State) (pulse : State → State) : State :=
  let t := s.sampleAmp
  (if t.sampled then pulse t else t.raise (.redundant false)).setOfft 0

/-- `AMP_OFF_DELAY()`: the off-delay starts from its full constant, whatever the timer held and whatever the amplifier
reads (rule R143). -/
def State.ampOffDelay (s : State) : State := s.setOfft s.cfg.offDelayTicks

/-- `RELAY_PULSE()` as an operation (rule R142). -/
def execRelayPulse (s : State) : Host.Outcome State Fault Refusal := .next s.relayPulse

end Sys2Proof.Machine
end

