-- ==== Sys2Proof/Machine/Remote.lean ====
section
/-! DEFINITION. The meanings of the rows of format `RCREC` (rules R74, R169 to R172): what step 7 does with a record once
it is copied and the decoder re-armed. `toggle` is read by none of them (rule R171). -/

namespace Sys2Proof.Machine

/-- A record for the configured address: the LED is lit and its window armed, before the command is looked at (rule
R170). -/
def State.armLed (s : State) : State := (s.writeLed true).setLedt s.cfg.ledTicks

/-- `VOLUME_UP`, row 3 of rule R74 (rules R150, R170, R171). -/
def execRcVolumeUp (_toggle : Bool) (s : State) : Host.Outcome State Fault Refusal :=
  .next (s.armLed.volumeUp State.transmit)

/-- `VOLUME_DOWN`, row 4 of rule R74 (rules R151, R170, R171). -/
def execRcVolumeDown (_toggle : Bool) (s : State) : Host.Outcome State Fault Refusal :=
  .next (s.armLed.volumeDown State.transmit)

/-- `MUTE`, row 5 of rule R74 (rules R152, R170, R171). -/
def execRcMute (_toggle : Bool) (s : State) : Host.Outcome State Fault Refusal := .next (s.armLed.mute State.transmit)

/-- `RC_UNMAPPED`, row 6 of rule R74: the LED, and a log entry (rules R170, R171). -/
def execRcUnmapped (cmd : Byte) (_toggle : Bool) (s : State) : Host.Outcome State Fault Refusal :=
  .next (s.armLed.emits [.log (.rcUnmapped cmd)])

/-- `RC_OTHER_ADDR`, row 2 of rule R74: a log entry and nothing else (rule R172). -/
def execRcOtherAddr (addr cmd : Byte) (_toggle : Bool) (s : State) : Host.Outcome State Fault Refusal :=
  .next (s.emits [.log (.rcOtherAddr addr cmd)])

/-- `RC_MALFORMED`, row 1 of rule R74: the condition `Malformed`; address and command are not looked at (rules R169,
R200). -/
def execRcMalformed (startbits _addr _cmd : Byte) (_toggle : Bool) (s : State) : Host.Outcome State Fault Refusal :=
  .next (s.raise (.malformed startbits))

end Sys2Proof.Machine
end

