-- ==== Sys2Proof/Machine/Serial.lean ====
section
/-! DEFINITION. The meanings of the rows of format `SER8` (rules R72, R81, R165): the operation that the byte selects,
and nothing for an ignored byte. There is no reply and the LED is not touched (rules R153, R165). -/

namespace Sys2Proof.Machine

/-- `AMP_ON`, byte `n` (rule R140). -/
def execSerAmpOnLowerN (s : State) : Host.Outcome State Fault Refusal := .next (s.ampOn State.relayPulse)

/-- `AMP_ON`, byte `N` (rule R140). -/
def execSerAmpOnUpperN (s : State) : Host.Outcome State Fault Refusal := .next (s.ampOn State.relayPulse)

/-- `AMP_ON`, byte `1` (rule R140). -/
def execSerAmpOnDigit1 (s : State) : Host.Outcome State Fault Refusal := .next (s.ampOn State.relayPulse)

/-- `AMP_OFF`, byte `f` (rule R141). -/
def execSerAmpOffLowerF (s : State) : Host.Outcome State Fault Refusal := .next (s.ampOff State.relayPulse)

/-- `AMP_OFF`, byte `F` (rule R141). -/
def execSerAmpOffUpperF (s : State) : Host.Outcome State Fault Refusal := .next (s.ampOff State.relayPulse)

/-- `AMP_OFF`, byte `0` (rule R141). -/
def execSerAmpOffDigit0 (s : State) : Host.Outcome State Fault Refusal := .next (s.ampOff State.relayPulse)

/-- `AMP_OFF_DELAY`, byte `d` (rule R143). -/
def execSerAmpOffDelayLowerD (s : State) : Host.Outcome State Fault Refusal := .next s.ampOffDelay

/-- `AMP_OFF_DELAY`, byte `D` (rule R143). -/
def execSerAmpOffDelayUpperD (s : State) : Host.Outcome State Fault Refusal := .next s.ampOffDelay

/-- `MUTE`, byte `m` (rule R152). -/
def execSerMuteLowerM (s : State) : Host.Outcome State Fault Refusal := .next (s.mute State.transmit)

/-- `MUTE`, byte `M` (rule R152). -/
def execSerMuteUpperM (s : State) : Host.Outcome State Fault Refusal := .next (s.mute State.transmit)

/-- `VOLUME_UP`, byte `+` (rule R150). -/
def execSerVolumeUpPlus (s : State) : Host.Outcome State Fault Refusal := .next (s.volumeUp State.transmit)

/-- `VOLUME_DOWN`, byte `-` (rule R151). -/
def execSerVolumeDownMinus (s : State) : Host.Outcome State Fault Refusal := .next (s.volumeDown State.transmit)

/-- `SER_IGNORED`: no state change, no event, no log (rule R81). -/
def execSerIgnored (_poll : Option Byte) (s : State) : Host.Outcome State Fault Refusal := .next s

end Sys2Proof.Machine
end

