-- ==== Sys2Proof/Machine/Sequencer.lean ====
section
/-! DEFINITION. The Power-Sequencing State Machine (file 45 of the spec): the seven steps as the pseudocode of rule R160
has them, and `ITERATE`. The dispatchers of steps 5 and 7 stand here in the pseudocode's own form, characters and
comparisons; that they agree with the decoder and the meanings that `step` uses is stated, not assumed. -/

namespace Sys2Proof.Machine

/-- The two blocking services that a step calls: run whole (`Engine.whole`), or only started (Machine/Clock.lean). -/
structure Engine where
  pulse : State → State
  send : State → Byte → Byte → State

/-- Every operation runs to completion before anything else happens (rule R51). -/
def Engine.whole : Engine := { pulse := State.relayPulse, send := State.transmit }

/-- Step 1: the watchdog is serviced, once an iteration; the debug housekeeping is nothing (rule R161). -/
def State.step1 (s : State) : State := s.kick

/-- Step 2: an amplifier change is logged and remembered, nothing else (rule R162). -/
def State.step2 (s : State) : State :=
  let t := s.sampleAmp
  if ampChange t.ampPrev t.sampled then (t.emits [.log (.ampState t.sampled)]).setAmpPrev t.sampled else t

/-- Step 3: a rising source edge calls `AMP_ON`, a falling one `AMP_OFF_DELAY`; then the sample is remembered (rule
R163). -/
def State.step3 (s : State) (e : Engine) : State :=
  let t := s.sampleSrc
  let u := if srcRise t.srcPrev t.sampled then t.ampOn e.pulse
    else if srcFall t.srcPrev t.sampled then t.ampOffDelay
    else t
  u.setSrcPrev t.sampled

/-- Step 4: the off-delay, tested on the value found: 0 nothing, 1 `AMP_OFF` and 0, else one less (rule R164). -/
def State.step4 (s : State) (e : Engine) : State :=
  if offtRunning s.offt then
    if offtFires s.offt then (s.ampOff e.pulse).setOfft 0 else s.setOfft (s.offt - 1)
  else s

/-- The serial dispatcher of step 5 (rule R165, the pseudocode of rule R160). -/
def State.dispatchSerial (s : State) (e : Engine) (b : Option Byte) : State :=
  if pollIs b 'n' || pollIs b 'N' || pollIs b '1' then s.ampOn e.pulse
  else if pollIs b 'f' || pollIs b 'F' || pollIs b '0' then s.ampOff e.pulse
  else if pollIs b 'd' || pollIs b 'D' then s.ampOffDelay
  else if pollIs b 'm' || pollIs b 'M' then s.mute e.send
  else if pollIs b '+' then s.volumeUp e.send
  else if pollIs b '-' then s.volumeDown e.send
  else s

/-- Step 5: one poll, at most one command (rule R165). -/
def State.step5 (s : State) (e : Engine) : State :=
  let t := s.pollSerial
  t.dispatchSerial e t.serLat

/-- Step 6: the LED window; the LED goes off in the step whose decrement yields 0 (rule R167). -/
def State.step6 (s : State) : State :=
  if ledtRunning s.ledt then
    let t := s.setLedt (s.ledt - 1)
    if ledtEnds t.ledt then t.writeLed false else t
  else s

/-- The record dispatcher of step 7 (rules R169 to R172, the pseudocode of rule R160). -/
def State.dispatchRecord (s : State) (e : Engine) (r : RcRecord) : State :=
  if r.startbits != s.cfg.startBitsValid then s.raise (.malformed r.startbits)
  else if r.addr == s.cfg.remoteAddr then
    let t := s.armLed
    if r.cmd == s.cfg.rcVolUp then t.volumeUp e.send
    else if r.cmd == s.cfg.rcVolDown then t.volumeDown e.send
    else if r.cmd == s.cfg.rcMute then t.mute e.send
    else t.emits [.log (.rcUnmapped r.cmd)]
  else s.emits [.log (.rcOtherAddr r.addr r.cmd)]

/-- Step 7: one poll; a reported record is copied, the decoder re-armed at once, and the copy dispatched (rules R48,
R168). -/
def State.step7 (s : State) (e : Engine) : State :=
  match s.world.decoder.report with
  | none => s
  | some r =>
    let t := (s.takeRecord r).rearm
    t.dispatchRecord e t.rcLat

/-- The step that `phase` is about to perform, and the move to the next one (rules R16, R160). -/
def State.phaseBody (s : State) (e : Engine) : State :=
  match s.phase with
  | .p1 => s.step1.nextPhase
  | .p2 => s.step2.nextPhase
  | .p3 => (s.step3 e).nextPhase
  | .p4 => (s.step4 e).nextPhase
  | .p5 => (s.step5 e).nextPhase
  | .p6 => s.step6.nextPhase
  | .p7 => (s.step7 e).nextPhase
  | .busy => s

/-- The next `n` steps of the loop, the world moving on between two of them; a reset ends the pass (rules R51, R204). -/
def State.runPhases : Nat → State → State
  | 0, s => s
  | 1, s => s.under (fun b => b.phaseBody Engine.whole)
  | n + 2, s =>
    let t := s.under (fun b => b.phaseBody Engine.whole)
    if t.resets = s.resets then State.runPhases (n + 1) t.advance else t

/-- `ITERATE()`: one pass of the seven steps (rule R160). -/
def State.iterate (s : State) : State := State.runPhases 7 (s.setPhase .p1)

/-- `ITERATE()` as an operation (rule R160). -/
def execIterate (s : State) : Host.Outcome State Fault Refusal := .next s.iterate

end Sys2Proof.Machine
end

