-- ==== Sys2Proof/Machine/Clock.lean ====
section
/-! DEFINITION. The reference micro-architecture (rules R16, R17, R107, R120), one tick a carrier half-period: blocking
operations are started, the block is in phase `BUSY`, and each tick moves the working registers. The
operations that run whole leave the same trace and the same registers; that is stated, not assumed. -/

namespace Sys2Proof.Machine

/-- The blocking operation is over: the loop goes on after the step that called it (rule R16). -/
def State.resume (s : State) : State := { s with phase := s.ret.phase.next }

/-- Start a generator run: `BURST1(n)` if `marked`, else `BURST0(n)` (rule R107). -/
def State.startBurst (s : State) (marked : Bool) (n : Units) : State :=
  { s with unitcnt := n, cyccnt := s.cfg.cyclesPerUnit, half := false, mark := marked }

/-- Start `TRANSMIT(address, command)` (rule R120). -/
def State.startTransmit (s : State) (address command : Byte) : State :=
  ((s.loadFrame (necFrame address command) s.cfg.frameBits false).setPhase .busy).startBurst true s.cfg.leadMark

/-- Start `TRANSMIT_REPEAT()` (rule R120). -/
def State.startRepeat (s : State) : State :=
  ((s.loadFrame s.sr 0 true).setPhase .busy).startBurst true s.cfg.leadMark

/-- The coil active and the hold loaded, in `BUSY`, with the step that called in `ret` (rules R16, R17, R142). -/
def State.holdRelay (s : State) : State :=
  { s with relay := true, holdcnt := s.cfg.relayHold, ret := s.phase.toRet s.ret, phase := .busy }

/-- Start `RELAY_PULSE()` (rules R17, R142). -/
def State.startPulse (s : State) : State :=
  (s.emits [.relay true]).holdRelay

/-- Blocking operations are only started. The lines after the call (`OFFT <- 0` of `AMP_ON`, `AMP_OFF` and step 4, `SrcPrev <- s`
of step 3) are then written when the operation starts, before its half-periods, where rule R8 has a call complete before the
next line: DESIGN CHOICE of the clocked machine (log entry 25). `Engine.whole` has them after the call. -/
def Engine.clocked : Engine := { pulse := State.startPulse, send := State.startTransmit }

/-- `txstate <- x` (rule R120). -/
def State.setTx (s : State) (x : TxState) : State := { s with txstate := x }

/-- The shift register one bit on, with one bit slot less to send (rule R120). -/
def State.shiftBit (s : State) : State := { s with sr := s.sr <<< 1, bitcnt := s.bitcnt - 1 }

/-- `ir_out <- b` (rule R107). -/
def State.writeIr (s : State) (b : Bool) : State := { s with irOut := b }

/-- The completion of a generator run, by `txstate` (rule R120); a run that belongs to no frame ends the operation. -/
def State.burstDone (s : State) : State :=
  match s.txstate with
  | .idle => (s.writeIr false).resume
  | .leadMark =>
    ((s.writeIr false).setTx .leadSpace).startBurst false (if s.rpt then s.cfg.rptSpace else s.cfg.leadSpace)
  | .bitMark =>
    (((s.writeIr false).setTx .bitSpace).shiftBit).startBurst false
      (if s.sr.msb then s.cfg.bit1Space else s.cfg.bit0Space)
  | .leadSpace | .bitSpace =>
    if s.bitcnt = 0 then ((s.writeIr false).setTx .endMark).startBurst true s.cfg.endMark
    else ((s.writeIr false).setTx .bitMark).startBurst true s.cfg.bitMark
  | .endMark => ((s.writeIr false).setTx .idle).resume

/-- The generator's counters after a tick (rule R107): the half, and at the end of a cycle the cycle counter, and at the
end of a unit the unit counter. -/
def State.countTick (s : State) : State :=
  if !s.half then { s with half := true }
  else if s.cyccnt = 1 then { s with half := false, cyccnt := s.cfg.cyclesPerUnit, unitcnt := s.unitcnt - 1 }
  else { s with half := false, cyccnt := s.cyccnt - 1 }

/-- One tick of the generator (rule R107): the pin, a half-period, the counters; the last tick of a run is its
completion. -/
def State.burstTick (s : State) : State :=
  let level := s.mark && !s.half
  let t := (((s.writeIr level).emits [.ir level 1]).wait 1).countTick
  if t.unitcnt = 0 then t.burstDone else t

/-- `holdcnt` one less (rule R17). -/
def State.countHold (s : State) : State := { s with holdcnt := s.holdcnt - 1 }

/-- The coil released at the end of a clocked hold, and the amplifier's answer (rules R23(d), R142). -/
def State.endHold (s : State) : State :=
  { s.emits [.relay false] with relay := false, world := s.world.toggleAmp }

/-- One tick of a relay hold (rules R17, R142); the last one releases the coil. -/
def State.holdTick (s : State) : State :=
  let t := ((s.emits [.hold 1]).wait 1).countHold
  if t.holdcnt = 0 then t.endHold.resume else t

/-- One tick of the operation in progress. -/
def State.clockTick (s : State) : State :=
  if s.holdcnt ≠ 0 then s.holdTick else if s.unitcnt ≠ 0 then s.burstTick else s.burstDone

/-- What a clocked machine does next: a tick of the operation in progress, or the step that `phase` names, with its
blocking operation only started. -/
def State.clockBody (s : State) : State := if s.phase = .busy then s.clockTick else s.phaseBody Engine.clocked

/-- One step of the clocked machine under the reset rules; the world moves on after it. -/
def State.clockStep (s : State) : State := (s.under State.clockBody).advance

/-- `n` steps of the clocked machine. -/
def State.clockRun : Nat → State → State
  | 0, s => s
  | n + 1, s => State.clockRun n s.clockStep

end Sys2Proof.Machine
end

