-- ==== Sys2Proof/Machine/Dispatch.lean ====
section
/-! DEFINITION. The meaning of every instruction: one arm for each constructor of `Instr`, each one direct call. -/

namespace Sys2Proof.Machine

/-- What an instruction does (rule R5). -/
def exec (i : Instr) (s : State) : Host.Outcome State Fault Refusal :=
  match i with
  | .serAmpOnLowerN => Sys2Proof.Machine.execSerAmpOnLowerN s
  | .serAmpOnUpperN => Sys2Proof.Machine.execSerAmpOnUpperN s
  | .serAmpOnDigit1 => Sys2Proof.Machine.execSerAmpOnDigit1 s
  | .serAmpOffLowerF => Sys2Proof.Machine.execSerAmpOffLowerF s
  | .serAmpOffUpperF => Sys2Proof.Machine.execSerAmpOffUpperF s
  | .serAmpOffDigit0 => Sys2Proof.Machine.execSerAmpOffDigit0 s
  | .serAmpOffDelayLowerD => Sys2Proof.Machine.execSerAmpOffDelayLowerD s
  | .serAmpOffDelayUpperD => Sys2Proof.Machine.execSerAmpOffDelayUpperD s
  | .serMuteLowerM => Sys2Proof.Machine.execSerMuteLowerM s
  | .serMuteUpperM => Sys2Proof.Machine.execSerMuteUpperM s
  | .serVolumeUpPlus => Sys2Proof.Machine.execSerVolumeUpPlus s
  | .serVolumeDownMinus => Sys2Proof.Machine.execSerVolumeDownMinus s
  | .serIgnored poll => Sys2Proof.Machine.execSerIgnored poll s
  | .rcVolumeUp toggle => Sys2Proof.Machine.execRcVolumeUp toggle s
  | .rcVolumeDown toggle => Sys2Proof.Machine.execRcVolumeDown toggle s
  | .rcMute toggle => Sys2Proof.Machine.execRcMute toggle s
  | .rcUnmapped cmd toggle => Sys2Proof.Machine.execRcUnmapped cmd toggle s
  | .rcOtherAddr addr cmd toggle => Sys2Proof.Machine.execRcOtherAddr addr cmd toggle s
  | .rcMalformed startbits addr cmd toggle => Sys2Proof.Machine.execRcMalformed startbits addr cmd toggle s
  | .transmit address command => Sys2Proof.Machine.execTransmit address command s
  | .transmitRepeat => Sys2Proof.Machine.execTransmitRepeat s
  | .burst1 n => Sys2Proof.Machine.execBurst1 n s
  | .burst0 n => Sys2Proof.Machine.execBurst0 n s
  | .sampleAmp => Sys2Proof.Machine.execSampleAmp s
  | .sampleSrc => Sys2Proof.Machine.execSampleSrc s
  | .relayPulse => Sys2Proof.Machine.execRelayPulse s
  | .iterate => Sys2Proof.Machine.execIterate s

end Sys2Proof.Machine
end

