-- ==== Sys2Proof/Machine/Step.lean ====
section
/-! DEFINITION. One step of the machine: the step of the loop that `phase` names (rule R160). Where that step reads a
wire (the serial poll of step 5, the record of step 7, a host's call between two iterations), the wire is decoded and
its instruction is run by `exec`. -/

namespace Sys2Proof.Machine

/-- The wire that the coming step reads, if it reads one (rules R50, R57, R104, R118, R165, R168). -/
def State.fetch (s : State) : Option Wire :=
  match s.phase with
  | .p1 => s.world.hostCall.map Call.wire
  | .p5 => some (.ser8 s.world.serial)
  | .p7 => s.world.decoder.report.map .rcrec
  | _ => none

/-- A host's call is taken. -/
def State.takeCall (s : State) : State := { s with world := { s.world with hostCall := none } }

/-- The state once that wire is read: a host's call is taken, the serial poll stands in `ser_lat`, the record in `rc_lat`
with the decoder re-armed (rules R18, R46 to R48). -/
def State.issue (s : State) : State :=
  match s.phase with
  | .p1 => s.takeCall
  | .p5 => s.pollSerial
  | .p7 =>
    match s.world.decoder.report with
    | some r => (s.takeRecord r).rearm
    | none => s
  | _ => s

/-- After the instruction: a host's call leaves the loop before step 1, the others end their step (rule R16). -/
def State.retire (s : State) (issuedAt : Phase) : State := if issuedAt = .p1 then s else s.nextPhase

/-- What a step does with a decoded wire, and what it does where there is none. -/
def State.stepBody (s : State) : Host.Outcome State Fault Refusal :=
  match s.fetch with
  | none => .next (if s.phase = .busy then s.clockTick else s.phaseBody Engine.whole)
  | some w =>
    match decode s.cfg w with
    | .error (.notNecFrame f) => .refused (.hostFrameNotNec f)
    | .ok i =>
      match exec i s.issue with
      | .next t => .next (t.retire s.phase)
      | .fault r => .fault r
      | .refused r => .refused r

/-- One step of the machine: a reset that is due beats everything (rule R208); else the step runs, a reset that comes
meanwhile cuts it (rule R233), and then the world moves on. -/
def step (s : State) : Host.Outcome State Fault Refusal :=
  if s.resetDue then .next s.takeReset.advance
  else
    match s.startStep.stepBody with
    | .next t => .next (s.conclude t).advance
    | .fault r => .fault r
    | .refused r => .refused r

/-- The state with a word placed where the next step reads it: 8 bits in the serial mailbox before step 5, 32 bits as a
host's `NEC32` call before step 1. No reset is due and the collaborators take no time, so that the very next step
runs the word. Another number of bits has no place in this machine. -/
def State.withFetchWord (s : State) (nbits w : Nat) : State :=
  let quiet := { s.world with rstAt := none, wdt := 0, wdtTrip := none, stall := 0 }
  if nbits = 8 then { s with phase := .p5, world := { quiet with serial := some (BitVec.ofNat 8 w) } }
  else if nbits = 32 then { s with phase := .p1, world := { quiet with hostCall := some (.nec32 (BitVec.ofNat 32 w)) } }
  else s

end Sys2Proof.Machine
end

