-- ==== Sys2Proof/Machine/Views.lean ====
section
/-! DEFINITION. The three views of the infrared output and the maps between them (rules R9, R105), the waveforms of the
two frames as unit-level traces (rules R77, R79), the listener of rules R78 and R79, and the part of a trace
that may be compared (rule R24). -/

namespace Sys2Proof.Machine

/-- A symbol of the unit-level trace: `M`, one burst-one unit, or `S`, one burst-zero unit (rules R9, R77). -/
inductive Sym where
  | mark
  | space
deriving DecidableEq, Repr

/-- A half-period of the output, as the pin-level view and the relay's hold have it. -/
inductive Sample where
  /-- The infrared pin at a level. -/
  | pin (level : Bool)
  /-- A half-period of a relay hold. -/
  | held
deriving DecidableEq, Repr

/-- The pin-level samples of one event (rule R105): `k` copies of the level for `Ir(b, k)`. -/
def Event.pinLevels : Event → List Bool
  | .ir b n => List.replicate n b
  | .relay _ => []
  | .hold _ => []
  | .led _ => []
  | .wdtKick => []
  | .rcRearm => []
  | .log _ => []

/-- The pin-level view of a trace: the half-period samples of `ir_out` (rules R9, R105). -/
def pinLevel (es : List Event) : List Bool := es.flatMap Event.pinLevels

/-- An event in half-period steps: what `Ir(b, n)` and `Hold(n)` say of each half-period, and the other events as they
are. Two traces with the same steps tell the world the same. -/
def Event.steps : Event → List (Sample ⊕ Event)
  | .ir b n => List.replicate n (.inl (.pin b))
  | .hold n => List.replicate n (.inl .held)
  | .relay b => [.inr (.relay b)]
  | .led b => [.inr (.led b)]
  | .wdtKick => [.inr .wdtKick]
  | .rcRearm => [.inr .rcRearm]
  | .log e => [.inr (.log e)]

/-- A trace in half-period steps. -/
def halfPeriodSteps (es : List Event) : List (Sample ⊕ Event) := es.flatMap Event.steps

/-- The pin-level samples of one unit with `k` carrier cycles (rule R80). -/
def Sym.pinLevels (k : Nat) : Sym → List Bool
  | .mark => (List.replicate k [true, false]).flatten
  | .space => List.replicate (2 * k) false

/-- From the unit level back to the pin level (rules R80, R105). -/
def pinLevelOfUnits (k : Nat) (us : List Sym) : List Bool := us.flatMap (Sym.pinLevels k)

/-- The unit that a block of `2 k` samples is, if it is one (rule R105). -/
def blockUnit (k : Nat) (block : List Bool) : Option Sym :=
  if block = Sym.pinLevels k .mark then some .mark
  else if block = Sym.pinLevels k .space then some .space
  else none

/-- The first `n` units of a pin-level list, cut into blocks of `2 k` samples (rule R105); `none` where a block is neither
a mark nor a space. -/
def cutUnits (k : Nat) : Nat → List Bool → Option (List Sym)
  | 0, [] => some []
  | 0, _ :: _ => none
  | n + 1, l => do
    let u ← blockUnit k (l.take (2 * k))
    let us ← cutUnits k n (l.drop (2 * k))
    pure (u :: us)

/-- The unit-level view of a pin-level list (rules R9, R105). -/
def unitLevel (k : Nat) (l : List Bool) : Option (List Sym) := cutUnits k (l.length / (2 * k)) l

/-- The unit-level view of a trace under a configuration. -/
def unitsOf (c : Config) (es : List Event) : Option (List Sym) := unitLevel c.cyclesPerUnit.toNat (pinLevel es)

/-- A bit slot: `M S` for 0, `M S S S` for 1, from the parameters of rule R6 (rules R77, R78). -/
def slotUnits (c : Config) (b : Bool) : List Sym :=
  List.replicate c.bitMark.toNat .mark ++ List.replicate (if b then c.bit1Space else c.bit0Space).toNat .space

/-- The unit-level trace of a command frame (rules R77, R111). -/
def commandUnits (c : Config) (f : Frame) : List Sym :=
  List.replicate c.leadMark.toNat .mark ++ List.replicate c.leadSpace.toNat .space ++
    (bitsMsbFirst f c.frameBits.toNat).flatMap (slotUnits c) ++ List.replicate c.endMark.toNat .mark

/-- The unit-level trace of a repeat frame (rules R79, R116). -/
def repeatUnits (c : Config) : List Sym :=
  List.replicate c.leadMark.toNat .mark ++ List.replicate c.rptSpace.toNat .space ++
    List.replicate c.endMark.toNat .mark

/-! ### The listener -/

/-- What a listener makes of a unit-level trace (rules R78, R79). -/
inductive Reading where
  | command (frame : Frame)
  | repeated
deriving DecidableEq, Repr

/-- The length of the run of `u` at the head of a trace, and the rest. -/
def takeRun (u : Sym) : List Sym → Nat × List Sym
  | [] => (0, [])
  | v :: vs => if v = u then ((takeRun u vs).1 + 1, (takeRun u vs).2) else (0, v :: vs)

/-- The trace after a run of exactly `n` times `u`. -/
def expectRun (u : Sym) (n : Nat) (l : List Sym) : Option (List Sym) :=
  if (takeRun u l).1 = n then some (takeRun u l).2 else none

/-- The value of a bit from the length of the space that follows its mark (rule R78). -/
def readSlot (c : Config) (l : List Sym) : Option (Bool × List Sym) := do
  let r ← expectRun .mark c.bitMark.toNat l
  if (takeRun .space r).1 = c.bit0Space.toNat then some (false, (takeRun .space r).2)
  else if (takeRun .space r).1 = c.bit1Space.toNat then some (true, (takeRun .space r).2)
  else none

/-- `n` bit slots, the first one most significant, onto the bits read so far. -/
def readSlots (c : Config) : Nat → Frame → List Sym → Option (Frame × List Sym)
  | 0, f, l => some (f, l)
  | n + 1, f, l => do
    let (b, r) ← readSlot c l
    readSlots c n (f <<< 1 ||| (if b then 1 else 0)) r

/-- The listener: a lead-in mark, then the first space tells a command frame from a repeat frame (rule R79); the bit slots
of a command frame, and the end marker (rule R78). -/
def listen (c : Config) (l : List Sym) : Option Reading := do
  let r ← expectRun .mark c.leadMark.toNat l
  let body := (takeRun .space r).2
  if (takeRun .space r).1 = c.leadSpace.toNat then
    let (f, tail) ← readSlots c c.frameBits.toNat 0 body
    let rest ← expectRun .mark c.endMark.toNat tail
    if rest = [] then some (.command f) else none
  else if (takeRun .space r).1 = c.rptSpace.toNat then
    let rest ← expectRun .mark c.endMark.toNat body
    if rest = [] then some .repeated else none
  else none

/-! ### What may be compared -/

/-- A log event. -/
def Event.isLog : Event → Bool
  | .log _ => true
  | .ir _ _ => false
  | .relay _ => false
  | .hold _ => false
  | .led _ => false
  | .wdtKick => false
  | .rcRearm => false

/-- A trace without its log events: the named occasions are a lower bound of what is logged, so a statement compares
traces without them (rule R24, log entry 10). -/
def observed (es : List Event) : List Event := es.filter (fun e => !e.isLog)

/-- The log entries of a trace, in order. -/
def logged : List Event → List LogEntry
  | [] => []
  | .log e :: es => e :: logged es
  | _ :: es => logged es

end Sys2Proof.Machine
end

