-- ==== Sys2Proof/Machine/Iteration.lean ====
section
/-! DEFINITION. The iteration as a pure function (rule R176): context and inputs to context and outputs, written from
the pseudocode of rule R160 without the machine's state. That `ITERATE` implements it is stated, not assumed. -/

namespace Sys2Proof.Machine

/-- The context of rule R176. -/
structure Context where
  ampPrev : Bool
  srcPrev : Bool
  offt : Timer
  ledt : Timer
  led : Bool
deriving DecidableEq, Repr

/-- The inputs of one iteration (rule R176): the samples of step 2, of step 3, of the `AMP_ON` or `AMP_OFF` of steps 3 and
4, and of step 5; the two polls. -/
structure Inputs where
  amp2 : Bool
  src : Bool
  amp34 : Bool
  amp5 : Bool
  ser : Option Byte
  rc : Option RcRecord
deriving DecidableEq, Repr

/-- The commands of the serial port (rule R165). -/
inductive Command where
  | ampOn | ampOff | ampOffDelay | mute | volumeUp | volumeDown
deriving DecidableEq, Repr

/-- The command of a serial byte, by its character (rule R72). -/
def serialCommand : Option Byte → Option Command
  | none => none
  | some b =>
    let ch := Char.ofNat b.toNat
    if ch = 'n' ∨ ch = 'N' ∨ ch = '1' then some .ampOn
    else if ch = 'f' ∨ ch = 'F' ∨ ch = '0' then some .ampOff
    else if ch = 'd' ∨ ch = 'D' then some .ampOffDelay
    else if ch = 'm' ∨ ch = 'M' then some .mute
    else if ch = '+' then some .volumeUp
    else if ch = '-' then some .volumeDown
    else none

/-- `Pulse`: the events of one relay pulse (rule R142). -/
def pulseEvents (c : Config) : List Event := [.relay true, .hold c.relayHold.toNat, .relay false]

/-- `Frame(F)` of a symbol: the events of one burst unit (rules R100, R101). -/
def unitEvents (c : Config) : Sym → List Event
  | .mark => (List.replicate c.cyclesPerUnit.toNat [Event.ir true 1, Event.ir false 1]).flatten
  | .space => [.ir false c.hpPerUnit]

/-- `Frame(F)`: the events of one command frame, unit by unit (rules R77, R111). -/
def frameEvents (c : Config) (address command : Byte) : List Event :=
  (commandUnits c (necFrame address command)).flatMap (unitEvents c)

/-- A context and the events so far. -/
abbrev Progress := Context × List Event

/-- `AMP_ON` with the sample `a` (rule R140). -/
def Progress.ampOn (c : Config) (a : Bool) (p : Progress) : Progress :=
  ({ p.1 with offt := 0 }, p.2 ++ (if a then [.log .alreadyOn] else pulseEvents c))

/-- `AMP_OFF` with the sample `a` (rule R141). -/
def Progress.ampOff (c : Config) (a : Bool) (p : Progress) : Progress :=
  ({ p.1 with offt := 0 }, p.2 ++ (if a then pulseEvents c else [.log .alreadyOff]))

/-- `AMP_OFF_DELAY` (rule R143). -/
def Progress.ampOffDelay (c : Config) (p : Progress) : Progress := ({ p.1 with offt := c.offDelayTicks }, p.2)

/-- One infrared command (rules R150 to R152). -/
def Progress.send (c : Config) (command : Byte) (p : Progress) : Progress :=
  (p.1, p.2 ++ frameEvents c c.necAddr command)

/-- Steps 1 and 2 (rules R161, R162). -/
def Progress.steps12 (amp2 : Bool) (p : Progress) : Progress :=
  if amp2 = p.1.ampPrev then (p.1, p.2 ++ [.wdtKick])
  else ({ p.1 with ampPrev := amp2 }, p.2 ++ [.wdtKick, .log (.ampState amp2)])

/-- Step 3 (rule R163). -/
def Progress.step3 (c : Config) (src amp34 : Bool) (p : Progress) : Progress :=
  let q := match p.1.srcPrev, src with
    | false, true => p.ampOn c amp34
    | true, false => p.ampOffDelay c
    | false, false => p
    | true, true => p
  ({ q.1 with srcPrev := src }, q.2)

/-- Step 4 (rule R164). -/
def Progress.step4 (c : Config) (amp34 : Bool) (p : Progress) : Progress :=
  if p.1.offt = 0 then p
  else if p.1.offt = 1 then p.ampOff c amp34
  else ({ p.1 with offt := p.1.offt - 1 }, p.2)

/-- Step 5 (rule R165). -/
def Progress.step5 (c : Config) (ser : Option Byte) (amp5 : Bool) (p : Progress) : Progress :=
  match serialCommand ser with
  | none => p
  | some .ampOn => p.ampOn c amp5
  | some .ampOff => p.ampOff c amp5
  | some .ampOffDelay => p.ampOffDelay c
  | some .mute => p.send c c.cmdMute
  | some .volumeUp => p.send c c.cmdVolUp
  | some .volumeDown => p.send c c.cmdVolDown

/-- Step 6 (rule R167). -/
def Progress.step6 (p : Progress) : Progress :=
  if p.1.ledt = 0 then p
  else if p.1.ledt = 1 then ({ p.1 with ledt := 0, led := false }, p.2 ++ [.led false])
  else ({ p.1 with ledt := p.1.ledt - 1 }, p.2)

/-- Step 7 (rules R168 to R172). -/
def Progress.step7 (c : Config) (rc : Option RcRecord) (p : Progress) : Progress :=
  match rc with
  | none => p
  | some r =>
    if r.startbits ≠ c.startBitsValid then (p.1, p.2 ++ [.rcRearm, .log (.malformed r.startbits)])
    else if r.addr ≠ c.remoteAddr then (p.1, p.2 ++ [.rcRearm, .log (.rcOtherAddr r.addr r.cmd)])
    else
      let q : Progress := ({ p.1 with ledt := c.ledTicks, led := true }, p.2 ++ [.rcRearm, .led true])
      if r.cmd = c.rcVolUp then q.send c c.cmdVolUp
      else if r.cmd = c.rcVolDown then q.send c c.cmdVolDown
      else if r.cmd = c.rcMute then q.send c c.cmdMute
      else (q.1, q.2 ++ [.log (.rcUnmapped r.cmd)])

/-- One iteration: context and inputs to context and events (rules R160, R176). -/
def pureIterate (c : Config) (x : Context) (u : Inputs) : Context × List Event :=
  let p : Progress := (x, [])
  let p := p.steps12 u.amp2
  let p := p.step3 c u.src u.amp34
  let p := p.step4 c u.amp34
  let p := p.step5 c u.ser u.amp5
  let p := p.step6
  p.step7 c u.rc

/-- The world that shows the machine these inputs, by what it does between the steps of one pass: the pins before steps 2,
3, 4 and 5, the serial mailbox before step 5, the decoder mailbox before step 7 (rule R57). -/
def Inputs.script (c : Config) (u : Inputs) : List Stimulus :=
  let amp (b : Bool) : Option Bool := some (throughPolarity c.ampSensePol b)
  [{ ampPin := amp u.amp2 },
   { ampPin := amp u.amp34, srcPin := some (throughPolarity c.srcSensePol u.src) },
   { ampPin := amp u.amp34 },
   { ampPin := amp u.amp5, serial := some u.ser },
   {},
   { record := some u.rc }]

/-- The context that a state holds. -/
def State.context (s : State) : Context :=
  { ampPrev := s.ampPrev, srcPrev := s.srcPrev, offt := s.offt, ledt := s.ledt, led := s.led }

end Sys2Proof.Machine
end

