-- ==== Sys2Proof/Safety.lean ====
section
/-! DEFINITION. What counts as a good state and a quiet world, in the terms that the statements use. -/

namespace Sys2Proof

/-- The longest blocking time of one iteration: two relay pulses and one frame, or one pulse and two frames (rules R178,
R242), with 121 units a frame. -/
def Config.worstBlocking (c : Config) : Nat :=
  max (2 * c.relayHold.toNat + 121 * c.hpPerUnit) (c.relayHold.toNat + 2 * (121 * c.hpPerUnit))

/-- The longest blocking time of one operation: a relay pulse or a frame (rules R115, R142). -/
def Config.longestCall (c : Config) : Nat := max c.relayHold.toNat (121 * c.hpPerUnit)

end Sys2Proof

namespace Sys2Proof.Machine

/-- No operation is in progress (rules R17, R28(e)). -/
def State.atRest (s : State) : Bool :=
  s.phase != .busy && (s.txstate == .idle && s.unitcnt == 0 && s.bitcnt == 0 && s.holdcnt == 0)

/-- The invariant of rule R28, between any two steps: no operation in progress, the infrared pin low, the relay
released, the LED lit exactly while its window counts, both timers within their constants; with the conditions
of rule R232 on the parameters, and the decoder initialised and armed (rules R48, R54, R231). -/
def State.Inv (s : State) : Prop :=
  s.cfg.legal = true ∧ s.atRest = true ∧ s.irOut = false ∧ s.relay = false ∧
    (s.led = true ↔ s.ledt ≠ 0) ∧ s.offt ≤ s.cfg.offDelayTicks ∧ s.ledt ≤ s.cfg.ledTicks ∧
    s.world.decoder.initialised = true ∧ s.world.decoder.armed = true

/-- No reset is on its way: `rst` will not be asserted, and the watchdog has not passed its period. -/
def World.calm (w : World) : Bool := w.rstAt.isNone && w.wdtTrip.isNone

/-- `n` half-periods from now the watchdog has still not passed its period (rules R210, R242). -/
def State.slack (s : State) (n : Nat) : Prop := s.world.wdt + n ≤ s.cfg.wdtPeriod

/-- A world that does nothing but what it already shows: no reset on its way, no stall, no call, nothing pending. -/
def World.still (w : World) : Bool := w.calm && w.stall == 0 && w.hostCall.isNone && w.pending.isEmpty

/-- A step from `s` whose body takes `n` half-periods is not disturbed: no reset is on its way, and the watchdog's period
is not passed before the step is over (rules R204, R210). -/
def State.undisturbed (s : State) (n : Nat) : Prop :=
  s.world.calm = true ∧ s.slack (s.world.stall + s.loopTime + n)

/-- The next reset comes `d` half-periods from now: `rst` is asserted then and the watchdog's period is not passed within `n`
half-periods, or `rst` is not on its way and the watchdog's counter reaches its period then (rules R204, R210, R230). -/
def State.resetWithin (s : State) (d n : Nat) : Prop :=
  s.world.wdtTrip = none ∧
    (s.world.rstAt = some (s.elapsed + d) ∧ s.slack n ∨ s.world.rstAt = none ∧ s.world.wdt + d = s.cfg.wdtPeriod)

/-- A still world in which an iteration finds nothing to do but its countdowns: both rails as last sampled, no byte, no
record (rule R160, its example). -/
def State.idleWorld (s : State) : Prop :=
  s.world.still = true ∧ s.ampSense = s.ampPrev ∧ s.srcSense = s.srcPrev ∧ s.world.serial = none ∧
    s.world.decoder.report = none

/-! ### The watchdog's budget (rules R178, R242) -/

/-- A stimulus that brings no reset and no host's call: the world may do anything to the pins, the amplifier and the
mailboxes, and the collaborators may take any time. -/
def Stimulus.unforced (x : Stimulus) : Bool := x.rst.isNone && x.hostCall.isNone

/-- A world in which no reset and no host's call is on its way. -/
def World.unforced (w : World) : Bool := w.calm && w.hostCall.isNone && w.pending.all Stimulus.unforced

/-- The time that the external collaborators take in the coming step and in each one after it. -/
def World.stalls (w : World) : List Nat := w.stall :: w.pending.map Stimulus.stall

/-- Any `n` of these times that follow one another, and `used` on top of them, stay within `limit`. -/
def windowsFit (n used limit : Nat) : List Nat → Bool
  | [] => true
  | x :: xs => decide (used + ((x :: xs).take n).sum ≤ limit) && windowsFit n used limit xs

/-- The condition of rule R242 on the environment: from one service of the watchdog to the next there are seven steps, and
what the collaborators take in them, the longest blocking time and the loop's own time stay within `WDT_PERIOD`. -/
def World.fits (w : World) (c : Config) : Bool :=
  windowsFit 7 (c.worstBlocking + c.iterPeriod) c.wdtPeriod w.stalls

/-- The steps that begin before the watchdog is serviced again, the coming one and the step 1 that services it among
them. -/
def Phase.stepsToKick : Phase → Nat
  | .p1 => 1
  | .p2 => 7
  | .p3 => 6
  | .p4 => 5
  | .p5 => 4
  | .p6 => 3
  | .p7 => 2
  | .busy => 0

/-- The longest time that blocking operations, and the loop itself, can still take in this iteration (rule R178): one pulse in
steps 3 and 4 together, one pulse or frame in step 5, one frame in step 7. -/
def State.blockingLeft (s : State) : Nat :=
  match s.phase with
  | .p1 => 0
  | .p2 => s.cfg.iterPeriod + s.cfg.worstBlocking
  | .p3 => s.cfg.worstBlocking
  | .p4 => (if s.offt = 1 then s.cfg.relayHold.toNat else 0) + s.cfg.longestCall + 121 * s.cfg.hpPerUnit
  | .p5 => s.cfg.longestCall + 121 * s.cfg.hpPerUnit
  | .p6 => 121 * s.cfg.hpPerUnit
  | .p7 => 121 * s.cfg.hpPerUnit
  | .busy => 0

/-- The watchdog's budget holds: between two steps of the loop, in a world that keeps to rule R242, what is left of this
iteration brings the counter no further than its period. -/
def State.InBudget (s : State) : Prop :=
  s.cfg.frameShape = true ∧ s.phase ≠ .busy ∧ s.world.unforced = true ∧ s.world.fits s.cfg = true ∧
    s.slack (s.blockingLeft + (s.world.stalls.take s.phase.stepsToKick).sum)

/-! ### What statements compare -/

/-- A state with its log events left out of the trace (rule R24, log entry 10), and without the level that the last sample
returned, which is the model's own field (log entry 6). What the latches `ser_lat` and `rc_lat` keep stays in it: it is the
model's choice (log entry 23). -/
def State.unlogged (s : State) : State := { s with trace := observed s.trace, sampled := false }

/-- The events that `t` has beyond `s`. -/
def State.newEvents (s t : State) : List Event := t.trace.drop s.trace.length

/-- From `s` the machine came to `t` where the rules lead to `e`: the same state, but for log events beyond those the rules
name (rule R24, log entry 10). -/
def Agrees (s e t : State) : Prop :=
  t.unlogged = e.unlogged ∧ (logged (s.newEvents e)).Sublist (logged (s.newEvents t))

/-- A state with its trace in half-period steps put aside, to compare two states but for how their traces group the
half-periods. -/
def State.untraced (s : State) : State := { s with trace := [] }

/-- The state once the unit-level trace `us` has been sent, the last unit a mark if `marked` (rules R100 to R102, R105,
R107): its events are out, its time has passed, the pin is low, the generator's counters have run out. -/
def State.played (s : State) (marked : Bool) (us : List Sym) : State :=
  { s with
    irOut := false, unitcnt := 0, cyccnt := s.cfg.cyclesPerUnit, half := false, mark := marked
    trace := s.trace ++ us.flatMap (unitEvents s.cfg)
    elapsed := s.elapsed + us.length * s.cfg.hpPerUnit
    world := s.world.tick s.cfg.wdtPeriod s.elapsed (us.length * s.cfg.hpPerUnit) }

/-- The state once a frame with the unit-level trace `us` has been sent: as `State.played`, and the transmitter is idle with
`sr` left in its shift register (rules R16, R17, R111, R116, R120). -/
def State.sent (s : State) (sr : Frame) (repeated : Bool) (us : List Sym) : State :=
  { s.played true us with sr := sr, bitcnt := 0, rpt := repeated, txstate := .idle, ret := s.phase.toRet s.ret }

/-- The state once the pulse of rule R142 is over: its events are out, its time has passed, the coil is released, the
amplifier has answered (rule R23(d), log entry 7). -/
def State.pulsed (s : State) : State :=
  { s with
    relay := false, holdcnt := 0, ret := s.phase.toRet s.ret
    trace := s.trace ++ pulseEvents s.cfg
    elapsed := s.elapsed + s.cfg.relayHold.toNat
    world := (s.world.tick s.cfg.wdtPeriod s.elapsed s.cfg.relayHold.toNat).toggleAmp }

/-- The pulses among some events: the times the relay coil is made active. -/
def pulses (es : List Event) : Nat := es.countP (· == .relay true)

/-- The premise `AmpResponds` of decision D28 at one moment: the sense input shows the amplifier's real power state. -/
def State.ampResponds (s : State) : Prop := s.ampSense = s.world.ampPower

end Sys2Proof.Machine
end

