-- ==== Sys2Proof/Certificates/Slice0/Obligations.lean ====
section
/-! DEFINITION. The statements for the provers. A clause that rests on a choice of the model names its log entry. -/

open Sys2Proof Sys2Proof.Machine

/-! ### Encoding -/

/-- Rules R70 to R75, R81, R83: the decoder gives back every well-formed instruction from its encoding. -/
def Obligations.DecodeInvertsEncode : Prop :=
  ∀ (c : Config) (i : Instr), c.legal = true → wellFormed c i = true → decode c (encode c i) = .ok i

/-- Rules R70 to R75, R81, R83: what the decoder accepts is the encoding of the well-formed instruction it gives. -/
def Obligations.EncodeInvertsDecode : Prop :=
  ∀ (c : Config) (w : Wire) (i : Instr), decode c w = .ok i → wellFormed c i = true ∧ encode c i = w

/-- Rules R72, R75, R81, R83: a few words of the spec and what they are. -/
def Obligations.WordsDecode : Prop :=
  decodeTableWord 8 0x6E = some .serAmpOnLowerN ∧ decodeTableWord 8 0x46 = some .serAmpOffUpperF ∧
    decodeTableWord 8 0x64 = some .serAmpOffDelayLowerD ∧ decodeTableWord 8 0x4D = some .serMuteUpperM ∧
    decodeTableWord 8 0x2B = some .serVolumeUpPlus ∧ decodeTableWord 8 0x2D = some .serVolumeDownMinus ∧
    decodeTableWord 8 0x00 = some (.serIgnored (some 0x00)) ∧
    decodeTableWord 32 0x11EE609F = some (.transmit 0x11 0x60) ∧ decodeTableWord 32 0x11EE609E = none

/-- Rule R81: 244 bytes, every one from 0x80 on among them, and the empty poll are ignored; ignored means that nothing
changes, and the loop goes on with step 6. -/
def Obligations.OtherBytesIgnored : Prop :=
  (∀ p : Option Byte, serialIgnored p = true → decodeSerial p = .serIgnored p) ∧
    serialIgnored none = true ∧ (∀ b : Byte, 0x80 ≤ b → serialIgnored (some b) = true) ∧
    ((List.range 256).filter (fun n => serialIgnored (some (BitVec.ofNat 8 n)))).length = 244 ∧
    (∀ (p : Option Byte) (s : State), exec (.serIgnored p) s = .next s) ∧
    ∀ s : State, s.phase = .p5 → s.undisturbed 0 → serialIgnored s.world.serial = true →
      ∃ t, step s = .next t ∧ t.phase = .p6 ∧ t.trace = s.trace ∧ t.context = s.context ∧
        t.irOut = s.irOut ∧ t.relay = s.relay

/-- Rules R72, R165: the instruction that the decoder reads from a serial poll does what the dispatcher of step 5 does. -/
def Obligations.SerialDispatchAgrees : Prop :=
  ∀ (p : Option Byte) (s : State), exec (decodeSerial p) s = .next (s.dispatchSerial Engine.whole p)

/-- Rules R74, R169 to R172: the instruction that the decoder reads from a record does what the dispatcher of step 7
does. -/
def Obligations.RecordDispatchAgrees : Prop :=
  ∀ (r : RcRecord) (s : State), exec (decodeRecord s.cfg r) s = .next (s.dispatchRecord Engine.whole r)

/-- Rules R75, R76, R110, R180(a): the frame built by shifts is the four bytes joined, each byte's complement being
255 less it. -/
def Obligations.FrameConstruction : Prop :=
  ∀ a k : Byte, necFrame a k = frameOfBytes a k ∧ isNecFrame (necFrame a k) = true ∧
    frameA (necFrame a k) = a ∧ frameNA (necFrame a k) = 255 - a ∧
    frameC (necFrame a k) = k ∧ frameNC (necFrame a k) = 255 - k

/-! ### The carrier generator -/

/-- Rules R17, R100, R101, R107: what a generator operation leaves, its working counters run out (log entry 15); all else is
unchanged but the time (log entry 8), and but for log events (log entry 10). -/
def Obligations.BurstResult : Prop :=
  ∀ (n : Units) (s : State),
    (∃ t, exec (.burst1 n) s = .next t ∧ Agrees s
      { s with
        irOut := false, unitcnt := 0, cyccnt := s.cfg.cyclesPerUnit, half := false, mark := true
        trace := s.trace ++ (List.replicate (n.toNat * s.cfg.cyclesPerUnit.toNat) [Event.ir true 1, .ir false 1]).flatten
        elapsed := s.elapsed + n.toNat * s.cfg.hpPerUnit
        world := s.world.tick s.cfg.wdtPeriod s.elapsed (n.toNat * s.cfg.hpPerUnit) } t) ∧
    ∃ t, exec (.burst0 n) s = .next t ∧ Agrees s
      { s with
        irOut := false, unitcnt := 0, cyccnt := s.cfg.cyclesPerUnit, half := false, mark := false
        trace := s.trace ++ List.replicate n.toNat (.ir false s.cfg.hpPerUnit)
        elapsed := s.elapsed + n.toNat * s.cfg.hpPerUnit
        world := s.world.tick s.cfg.wdtPeriod s.elapsed (n.toNat * s.cfg.hpPerUnit) } t

/-- Rule R102: the infrared pin is low when a generator operation returns, and what it sent ends low, for every
configuration (log events left out, log entry 10). -/
def Obligations.PinLowAfterGenerator : Prop :=
  ∀ (n : Units) (s : State) (i : Instr), i = .burst1 n ∨ i = .burst0 n →
    ∃ t, exec i s = .next t ∧ t.irOut = false ∧ t.irPin = false ∧
      ∀ e, (observed (s.newEvents t)).getLast? = some e → ∃ k, e = .ir false k

/-- Rules R100, R101, R105: seen unit by unit, `BURST1(n)` is `M^n` and `BURST0(n)` is `S^n`. -/
def Obligations.BurstUnits : Prop :=
  ∀ (n : Units) (s : State), s.cfg.cyclesPerUnit ≠ 0 →
    (∃ t, exec (.burst1 n) s = .next t ∧ unitsOf s.cfg (s.newEvents t) = some (List.replicate n.toNat .mark)) ∧
      ∃ t, exec (.burst0 n) s = .next t ∧ unitsOf s.cfg (s.newEvents t) = some (List.replicate n.toNat .space)

/-! ### The transmitter -/

/-- Rules R110 to R115: what `TRANSMIT` leaves: the frame sent, bit by bit; the transmitter idle, its shift register empty
(R17; that it clears `rpt` is DEDUCED, log entry 15); all else unchanged but the time (log entry 8), and but for log events
(log entry 10). -/
def Obligations.TransmitResult : Prop :=
  ∀ (a k : Byte) (s : State), s.cfg.frameShape = true →
    ∃ t, exec (.transmit a k) s = .next t ∧ Agrees s (s.sent 0 false
      (List.replicate 16 .mark ++ List.replicate 8 .space ++
        (bitsMsbFirst (frameOfBytes a k) 32).flatMap (fun b => if b then [.mark, .space, .space, .space] else [.mark, .space]) ++
        [.mark])) t

/-- Rules R77, R113: seen unit by unit, a command frame is the lead-in, the 32 slots of the address, its complement, the
command and its complement, each byte's bit 7 first, and the end marker. -/
def Obligations.TransmitUnits : Prop :=
  ∀ (a k : Byte) (s : State), s.cfg.frameShape = true →
    ∃ t, exec (.transmit a k) s = .next t ∧
      unitsOf s.cfg (s.newEvents t) = some
        (List.replicate 16 .mark ++ List.replicate 8 .space ++
          [a, ~~~a, k, ~~~k].flatMap (fun byte => [7, 6, 5, 4, 3, 2, 1, 0].flatMap (fun j =>
            if byte.getLsbD j then [.mark, .space, .space, .space] else [.mark, .space])) ++
          [.mark])

/-- Rule R112: the lead-in of a command frame is 16 marks and 8 spaces, 24 units, 1008 half-periods, nominally 9 ms and
4.5 ms, 13.5 ms. -/
def Obligations.LeadIn : Prop :=
  ∀ (a k : Byte) (s : State), s.cfg.frameShape = true → s.cfg.cyclesPerUnit = 21 → s.cfg.tUnitNs = 562500 →
    ∃ t us, exec (.transmit a k) s = .next t ∧ unitsOf s.cfg (s.newEvents t) = some us ∧
      us.take 24 = List.replicate 16 .mark ++ List.replicate 8 .space ∧ 24 * s.cfg.hpPerUnit = 1008 ∧
      (pinLevel (s.newEvents t)).take 1008 =
        pinLevelOfUnits 21 (List.replicate 16 .mark ++ List.replicate 8 .space) ∧
      s.cfg.nominalNsOfUnits 16 = 9000000 ∧ s.cfg.nominalNsOfUnits 8 = 4500000 ∧ s.cfg.nominalNsOfUnits 24 = 13500000

/-- Rule R115: every command frame has 121 units, 49 marks and 72 spaces, whatever its operands; 5082 half-periods with 21
cycles a unit. -/
def Obligations.FrameLength : Prop :=
  ∀ (a k : Byte) (s : State), s.cfg.frameShape = true →
    ∃ t us, exec (.transmit a k) s = .next t ∧ unitsOf s.cfg (s.newEvents t) = some us ∧ us.length = 121 ∧
      us.count .mark = 49 ∧ us.count .space = 72 ∧ (pinLevel (s.newEvents t)).length = 121 * s.cfg.hpPerUnit ∧
      t.elapsed = s.elapsed + 121 * s.cfg.hpPerUnit ∧
      (s.cfg.cyclesPerUnit = 21 → t.elapsed = s.elapsed + 5082)

/-- Rules R79, R116: what `TRANSMIT_REPEAT` leaves: 16 marks, 4 spaces, a mark; all else unchanged but the working registers
of the transmitter (R17; that it leaves `SR` alone is DEDUCED, log entry 15) and the time (log entry 8), and but for log
events (log entry 10). -/
def Obligations.RepeatResult : Prop :=
  ∀ s : State, s.cfg.frameShape = true →
    ∃ t, exec .transmitRepeat s = .next t ∧
      Agrees s (s.sent s.sr true (List.replicate 16 .mark ++ List.replicate 4 .space ++ [.mark])) t ∧
      unitsOf s.cfg (s.newEvents t) = some (List.replicate 16 .mark ++ List.replicate 4 .space ++ [.mark]) ∧
      t.elapsed = s.elapsed + 21 * s.cfg.hpPerUnit

/-- Rules R78, R79: a listener reads the frame back from the length of the spaces, and tells a repeat frame from a command
frame by the first space. -/
def Obligations.ListenerReads : Prop :=
  ∀ (a k : Byte) (s : State), s.cfg.frameShape = true →
    (∃ t us, exec (.transmit a k) s = .next t ∧ unitsOf s.cfg (s.newEvents t) = some us ∧
      listen s.cfg us = some (.command (a ++ ~~~a ++ k ++ ~~~k))) ∧
    ∃ t us, exec .transmitRepeat s = .next t ∧ unitsOf s.cfg (s.newEvents t) = some us ∧ listen s.cfg us = some .repeated

/-! ### Power sensing and the relay -/

/-- Rules R41, R42, R130, R131: a sample is the pin's level through its polarity; nothing but the level returned is written
(the model returns it in its own field `sampled`, log entry 6; log events left out, log entry 10). The coil's pin and the LED's show their latches through
their polarity, the infrared pin shows its own. -/
def Obligations.SampleResult : Prop :=
  ∀ s : State,
    (∃ t, exec .sampleAmp s = .next t ∧ Agrees s s t ∧
        t.sampled = if s.cfg.ampSensePol = .activeHigh then s.world.ampPin else !s.world.ampPin) ∧
      (∃ t, exec .sampleSrc s = .next t ∧ Agrees s s t ∧
        t.sampled = if s.cfg.srcSensePol = .activeHigh then s.world.srcPin else !s.world.srcPin) ∧
      s.relayPin = (if s.cfg.relayPol = .activeHigh then s.relay else !s.relay) ∧
      s.ledPin = (if s.cfg.ledPol = .activeHigh then s.led else !s.led) ∧ s.irPin = s.irOut

/-- Rules R16, R17, R23(d), R142: what `RELAY_PULSE` leaves; all else is unchanged but the time (log entry 8). That the
amplifier has answered when the pulse is over is the model's choice (log entry 7); log events left out (log entry 10). -/
def Obligations.RelayPulseResult : Prop :=
  ∀ s : State,
    ∃ t, exec .relayPulse s = .next t ∧ Agrees s
      { s with
        relay := false, holdcnt := 0, ret := s.phase.toRet s.ret
        trace := s.trace ++ [.relay true, .hold s.cfg.relayHold.toNat, .relay false]
        elapsed := s.elapsed + s.cfg.relayHold.toNat
        world :=
          { s.world.tick s.cfg.wdtPeriod s.elapsed s.cfg.relayHold.toNat with ampPower := !s.world.ampPower } } t

/-- Rules R140, R145, R201: `AMP_ON` by each of its three bytes: one pulse if the amplifier reads OFF, else a log entry and
nothing else; the off-delay is cancelled on both paths; all else is unchanged. A pulse is as in `RelayPulseResult`: time
passes (log entry 8), and that the amplifier has answered when it is over (rule R23(d)) is the model's choice (log entry
7). -/
def Obligations.AmpOnResult : Prop :=
  ∀ (i : Instr) (s : State), i = .serAmpOnLowerN ∨ i = .serAmpOnUpperN ∨ i = .serAmpOnDigit1 →
    ∃ t, exec i s = .next t ∧
      Agrees s (if s.ampSense then { s with offt := 0, trace := s.trace ++ [.log .alreadyOn] }
        else { s.pulsed with offt := 0 }) t

/-- Rules R141, R145, R201: `AMP_OFF` by each of its three bytes: one pulse if the amplifier reads ON, else a log entry and
nothing else; the off-delay is cancelled on both paths; all else is unchanged. A pulse is as in `RelayPulseResult`: time
passes (log entry 8), and that the amplifier has answered when it is over (rule R23(d)) is the model's choice (log entry
7). -/
def Obligations.AmpOffResult : Prop :=
  ∀ (i : Instr) (s : State), i = .serAmpOffLowerF ∨ i = .serAmpOffUpperF ∨ i = .serAmpOffDigit0 →
    ∃ t, exec i s = .next t ∧
      Agrees s (if s.ampSense then { s.pulsed with offt := 0 }
        else { s with offt := 0, trace := s.trace ++ [.log .alreadyOff] }) t

/-- Rule R143: `AMP_OFF_DELAY` by each of its two bytes writes the timer and nothing else, whatever it held. -/
def Obligations.AmpOffDelayResult : Prop :=
  ∀ (i : Instr) (s : State), i = .serAmpOffDelayLowerD ∨ i = .serAmpOffDelayUpperD →
    ∃ t, exec i s = .next t ∧ Agrees s { s with offt := s.cfg.offDelayTicks } t

/-- Rule R146: two calls of `AMP_ON` pulse as often as the amplifier read OFF at the start of one; the sense pin may have
any level `p` at the second call. -/
def Obligations.AmpOnTwice : Prop :=
  ∀ (i : Instr) (s : State) (p : Bool), i = .serAmpOnLowerN ∨ i = .serAmpOnUpperN ∨ i = .serAmpOnDigit1 →
    ∃ t u, exec i s = .next t ∧ exec i { t with world := { t.world with ampPin := p } } = .next u ∧
      pulses (s.newEvents u) =
        (if s.ampSense then 0 else 1) + (if throughPolarity s.cfg.ampSensePol p then 0 else 1) ∧ u.offt = 0

/-- Rules R23(d), R140, R141, decision D28: where the sense input shows the amplifier's power, `AMP_ON` leaves the amplifier
on and `AMP_OFF` leaves it off (it answers each pulse, the model's choice, log entry 7). -/
def Obligations.AmpReachesTarget : Prop :=
  ∀ s : State, s.ampResponds →
    (∃ t, exec .serAmpOnDigit1 s = .next t ∧ t.world.ampPower = true) ∧
      ∃ t, exec .serAmpOffDigit0 s = .next t ∧ t.world.ampPower = false

/-! ### The infrared commands -/

/-- Rules R85, R150 to R153: by serial byte each infrared command is one `TRANSMIT` of its two constants (but for log events,
log entry 10). -/
def Obligations.SerialCommandsTransmit : Prop :=
  ∀ (i : Instr) (s : State) (k : Byte),
    (i = .serVolumeUpPlus ∧ k = s.cfg.cmdVolUp) ∨ (i = .serVolumeDownMinus ∧ k = s.cfg.cmdVolDown) ∨
      ((i = .serMuteLowerM ∨ i = .serMuteUpperM) ∧ k = s.cfg.cmdMute) →
    ∃ t u, exec i s = .next t ∧ exec (.transmit s.cfg.necAddr k) s = .next u ∧ Agrees s u t ∧
      t.relay = s.relay ∧ t.led = s.led ∧ t.ampPrev = s.ampPrev ∧ t.srcPrev = s.srcPrev ∧ t.offt = s.offt ∧ t.ledt = s.ledt ∧
      pulses (s.newEvents t) = 0

/-- Rule R152: `MUTE` sends address 0x11 and command 0x60, the frame 0x11EE609F, 121 units, and touches no relay: by serial
byte `m` or `M`, and by record, where the LED is lit first (but for log events, log entry 10). -/
def Obligations.MuteFrame : Prop :=
  ∀ (i : Instr) (s : State) (toggle : Bool), s.cfg.frameShape = true → s.cfg.necAddr = 0x11 → s.cfg.cmdMute = 0x60 →
    i = .serMuteLowerM ∨ i = .serMuteUpperM ∨ i = .rcMute toggle →
    ∃ t u us, exec i s = .next t ∧
      exec (.transmit 0x11 0x60) (if i = .rcMute toggle then
        { s with led := true, ledt := s.cfg.ledTicks, trace := s.trace ++ [.led true] } else s) = .next u ∧
      Agrees s u t ∧ unitsOf s.cfg (s.newEvents t) = some us ∧ us.length = 121 ∧ listen s.cfg us = some (.command 0x11EE609F) ∧
      pulses (s.newEvents t) = 0 ∧ t.relay = s.relay ∧ t.offt = s.offt ∧ t.ampPrev = s.ampPrev ∧ t.srcPrev = s.srcPrev

/-- Rules R150 to R152, R170, R171: by record each infrared command lights the LED, arms its window, and is then one
`TRANSMIT` of its two constants (but for log events, log entry 10). -/
def Obligations.RemoteCommandsTransmit : Prop :=
  ∀ (i : Instr) (s : State) (k : Byte) (toggle : Bool),
    (i = .rcVolumeUp toggle ∧ k = s.cfg.cmdVolUp) ∨ (i = .rcVolumeDown toggle ∧ k = s.cfg.cmdVolDown) ∨
      (i = .rcMute toggle ∧ k = s.cfg.cmdMute) →
    ∃ t u, exec i s = .next t ∧
      exec (.transmit s.cfg.necAddr k) { s with led := true, ledt := s.cfg.ledTicks, trace := s.trace ++ [.led true] } =
        .next u ∧
      Agrees s u t ∧ t.led = true ∧ t.ledt = s.cfg.ledTicks ∧ t.offt = s.offt ∧ t.relay = s.relay ∧ pulses (s.newEvents t) = 0

/-- Rules R170, R171: an unmapped command of the configured address lights the LED, arms its window and is logged. -/
def Obligations.RemoteUnmappedResult : Prop :=
  ∀ (cmd : Byte) (toggle : Bool) (s : State),
    ∃ t, exec (.rcUnmapped cmd toggle) s = .next t ∧
      Agrees s { s with
        led := true, ledt := s.cfg.ledTicks, trace := s.trace ++ [.led true, .log (.rcUnmapped cmd)] } t

/-- Rules R169, R172, R200: a record for another address, and a malformed one, are logged and change nothing. -/
def Obligations.RemoteLogOnlyResult : Prop :=
  ∀ (startbits addr cmd : Byte) (toggle : Bool) (s : State),
    (∃ t, exec (.rcOtherAddr addr cmd toggle) s = .next t ∧
      Agrees s { s with trace := s.trace ++ [.log (.rcOtherAddr addr cmd)] } t) ∧
    ∃ t, exec (.rcMalformed startbits addr cmd toggle) s = .next t ∧
      Agrees s { s with trace := s.trace ++ [.log (.malformed startbits)] } t

/-! ### The steps of the loop -/

/-- A step runs the decoded instruction (rules R70, R165, R168): where the wire that the coming step reads is the encoding
of a well-formed instruction, the step is that instruction's `exec`, with what this machine adds around it: the time of the
collaborators before (`startStep`), the wire taken (`issue`), the move to the next step (`retire`), a reset that cut it
(`conclude`), and the world moving on (`advance`). It compares the model's step with the model's `exec`, log events
included, and claims nothing about what is logged. -/
def Obligations.StepRunsDecoded : Prop :=
  ∀ (s t : State) (i : Instr), s.resetDue = false → s.cfg.legal = true → wellFormed s.cfg i = true →
    s.fetch = some (encode s.cfg i) → exec i s.startStep.issue = .next t →
    step s = .next (s.conclude (t.retire s.phase)).advance

/-- Rule R16: the seven steps follow one another in order, and step 1 follows step 7; a host's call stays before step 1
(decision D31, log entry 9). -/
def Obligations.PhaseOrder : Prop :=
  ∀ s t : State, s.phase ≠ .busy → step s = .next t → t.resets = s.resets →
    t.phase = (if s.phase = .p1 ∧ s.world.hostCall ≠ none then .p1 else s.phase.next)

/-- Rules R49, R161: step 1 services the watchdog and does nothing else. -/
def Obligations.Step1Kicks : Prop :=
  ∀ s : State, s.phase = .p1 → s.world.hostCall = none → s.undisturbed 0 →
    ∃ t, step s = .next t ∧
      Agrees s (State.advance
        { s.startStep with
          phase := .p2, trace := s.trace ++ [.wdtKick], world := { s.startStep.world with wdt := 0 } }) t

/-- Rule R162: step 2 logs and remembers a change of the amplifier's level, and nothing else happens; `AmpPrev` has no other
use: with another value in it every other step does the same. -/
def Obligations.Step2Observes : Prop :=
  (∀ s : State, s.phase = .p2 → s.undisturbed 0 →
    ∃ t, step s = .next t ∧
      Agrees s (State.advance
        { s.startStep with
          phase := .p3, ampPrev := s.ampSense
          trace := s.trace ++ (if s.ampSense = s.ampPrev then [] else [.log (.ampState s.ampSense)]) }) t) ∧
  ∀ (s t : State) (b : Bool), s.phase ≠ .p2 → (s.phase = .p1 → s.world.hostCall = none) → step s = .next t →
    ∃ t', step { s with ampPrev := b } = .next t' ∧ { t' with ampPrev := false } = { t with ampPrev := false }

/-- Rules R133, R140, R143, R163: step 3 answers a rising source edge with `AMP_ON` and a falling one with
`AMP_OFF_DELAY`, and remembers the sample. A pulse is as in `RelayPulseResult`: time passes (log entry 8), and that the
amplifier has answered when it is over (rule R23(d)) is the model's choice (log entry 7). -/
def Obligations.Step3Edges : Prop :=
  ∀ s : State, s.phase = .p3 → s.undisturbed s.cfg.relayHold.toNat →
    ∃ t, step s = .next t ∧
      Agrees s (State.advance
        { (if s.srcPrev = false ∧ s.srcSense = true then
            (if s.ampSense then { s.startStep with offt := 0, trace := s.trace ++ [.log .alreadyOn] }
              else { s.startStep.pulsed with offt := 0 })
          else if s.srcPrev = true ∧ s.srcSense = false then { s.startStep with offt := s.cfg.offDelayTicks }
          else s.startStep) with
          phase := .p4, srcPrev := s.srcSense }) t

/-- Rules R141, R164: step 4 tests the off-delay before it changes it: 0 nothing, 1 `AMP_OFF` and 0, else one less. A pulse is as
in `RelayPulseResult`: time passes (log entry 8), and that the amplifier has answered when it is over (rule R23(d)) is the
model's choice (log entry 7). -/
def Obligations.Step4Countdown : Prop :=
  ∀ s : State, s.phase = .p4 → s.undisturbed s.cfg.relayHold.toNat →
    ∃ t, step s = .next t ∧
      Agrees s (State.advance
        { (if s.offt = 0 then s.startStep
          else if s.offt = 1 then
            (if s.ampSense then { s.startStep.pulsed with offt := 0 }
              else { s.startStep with offt := 0, trace := s.trace ++ [.log .alreadyOff] })
          else { s.startStep with offt := BitVec.ofNat 16 (s.offt.toNat - 1) }) with
          phase := .p5 }) t

/-- Rules R18, R46, R165: step 5 takes the byte out of the mailbox into `ser_lat`, runs the one command it selects, and goes
on with step 6 (but for log events, log entry 10). That `ser_lat` keeps the byte after the step is the model's choice (log
entry 23). -/
def Obligations.Step5Polls : Prop :=
  ∀ s : State, s.phase = .p5 → s.cfg.frameShape = true → s.undisturbed s.cfg.longestCall →
    ∃ t u, exec (decodeSerial s.world.serial)
        { s.startStep with serLat := s.world.serial, world := { s.startStep.world with serial := none } } = .next u ∧
      step s = .next t ∧ Agrees s { u with phase := .p6 }.advance t

/-- Rule R167: step 6 counts the LED's window down and turns the LED off in the step whose decrement yields 0. -/
def Obligations.Step6Window : Prop :=
  ∀ s : State, s.phase = .p6 → s.undisturbed 0 →
    ∃ t, step s = .next t ∧
      Agrees s (State.advance
        { (if s.ledt = 0 then s.startStep
          else if s.ledt = 1 then { s.startStep with ledt := 0, led := false, trace := s.trace ++ [.led false] }
          else { s.startStep with ledt := BitVec.ofNat 16 (s.ledt.toNat - 1) }) with
          phase := .p7 }) t

/-- Rules R18, R47, R48, R168: step 7 does nothing without a record; a record is copied into `rc_lat` and the decoder
re-armed, once, before the record is acted on, whatever it holds (but for log events, log entry 10). That `rc_lat` keeps the
record after the step is the model's choice (log entry 23). -/
def Obligations.Step7PollsAndRearms : Prop :=
  ∀ s : State, s.phase = .p7 → s.cfg.frameShape = true → s.undisturbed (121 * s.cfg.hpPerUnit) →
    (s.world.decoder.report = none →
      ∃ t, step s = .next t ∧ Agrees s { s.startStep with phase := .p1 }.advance t) ∧
      ∀ r, s.world.decoder.report = some r →
        ∃ t u, exec (decodeRecord s.cfg r)
            { s.startStep with
              rcLat := r, trace := s.trace ++ [.rcRearm]
              world :=
                { s.startStep.world with decoder := { s.world.decoder with armed := true, slot := none } } } = .next u ∧
          step s = .next t ∧ Agrees s { u with phase := .p1 }.advance t ∧ (s.newEvents t).count .rcRearm = 1

/-- Rules R169, R200: a malformed record is logged; the decoder is re-armed first; no register, latch or pin changes, and
the iteration ends, whatever the record's address and command. That `rc_lat` keeps the record is the model's choice (log
entry 23). -/
def Obligations.MalformedRecord : Prop :=
  ∀ (s : State) (r : RcRecord), s.phase = .p7 → s.undisturbed 0 → s.world.decoder.report = some r →
    r.startbits ≠ s.cfg.startBitsValid →
    ∃ t, step s = .next t ∧
      Agrees s (State.advance
        { s.startStep with
          phase := .p1, rcLat := r, trace := s.trace ++ [.rcRearm, .log (.malformed r.startbits)]
          world := { s.startStep.world with decoder := { s.world.decoder with armed := true, slot := none } } }) t

/-- Rule R172: a well-formed record for another address is logged and nothing else happens (but the re-arm of rule R168).
That `rc_lat` keeps the record is the model's choice (log entry 23). -/
def Obligations.OtherAddressRecord : Prop :=
  ∀ (s : State) (r : RcRecord), s.phase = .p7 → s.undisturbed 0 → s.world.decoder.report = some r →
    r.startbits = s.cfg.startBitsValid → r.addr ≠ s.cfg.remoteAddr →
    ∃ t, step s = .next t ∧
      Agrees s (State.advance
        { s.startStep with
          phase := .p1, rcLat := r, trace := s.trace ++ [.rcRearm, .log (.rcOtherAddr r.addr r.cmd)]
          world := { s.startStep.world with decoder := { s.world.decoder with armed := true, slot := none } } }) t

/-- Rule R170: every well-formed record for the configured address, whatever its command, lights the LED and arms its window
from the full constant, before anything is transmitted, and leaves the off-delay alone. -/
def Obligations.OwnAddressRecord : Prop :=
  ∀ (s : State) (r : RcRecord), s.phase = .p7 → s.cfg.frameShape = true → s.undisturbed (121 * s.cfg.hpPerUnit) →
    s.world.decoder.report = some r → r.startbits = s.cfg.startBitsValid → r.addr = s.cfg.remoteAddr →
    ∃ t, step s = .next t ∧ t.led = true ∧ t.ledt = s.cfg.ledTicks ∧ t.offt = s.offt ∧
      (observed (s.newEvents t)).take 2 = [.rcRearm, .led true] ∧
      ∀ e ∈ (observed (s.newEvents t)).drop 2, ∃ b n, e = .ir b n

/-! ### The iteration -/

/-- Rules R16, R51, R160: seven steps of the machine from step 1 are one `ITERATE`. -/
def Obligations.SevenStepsAreIterate : Prop :=
  ∀ s t : State, s.phase = .p1 → s.world.hostCall = none → exec .iterate s = .next t → t.resets = s.resets →
    Sys2Proof.core.run 7 s = .next t.advance

/-- Rules R160 to R172, R176: `ITERATE` is the pure function of context and inputs that the pseudocode gives: the same
context, the same events (but for log events beyond the named ones, log entry 10). The inputs are what the world shows
at the points of rule R57. -/
def Obligations.IterateImplementsPure : Prop :=
  ∀ (s : State) (u : Inputs) (rest : List Stimulus), s.cfg.frameShape = true → s.world.calm = true →
    s.world.stall = 0 → s.world.pending = u.script s.cfg ++ rest → s.world.decoder.initialised = true →
    s.world.decoder.armed = true → s.cfg.worstBlocking + s.cfg.iterPeriod ≤ s.cfg.wdtPeriod →
    ∃ t, exec .iterate s = .next t ∧ t.context = (pureIterate s.cfg s.context u).1 ∧
      observed (s.newEvents t) = observed (pureIterate s.cfg s.context u).2 ∧
      (logged (pureIterate s.cfg s.context u).2).Sublist (logged (s.newEvents t)) ∧
      t.resets = s.resets ∧ t.phase = .p1 ∧ t.world.pending = rest

/-- Rule R160, its example: with nothing to see and both timers at 0, the whole iteration emits `WdtKick` and changes
nothing (but the poll's latch, the time and the watchdog's counter). That `ser_lat` keeps the empty poll, and `rc_lat` what
it held, is the model's choice (log entry 23). -/
def Obligations.IdleIteration : Prop :=
  ∀ s : State, s.idleWorld → s.phase = .p1 → s.offt = 0 → s.ledt = 0 → s.cfg.iterPeriod ≤ s.cfg.wdtPeriod →
    ∃ t, exec .iterate s = .next t ∧
      Agrees s
        { s with
          serLat := none, trace := s.trace ++ [.wdtKick], elapsed := s.elapsed + s.cfg.iterPeriod
          world := { s.world with wdt := s.cfg.iterPeriod } } t

/-- Rule R178: what one iteration can contain, whatever the world does: one watchdog service, first; at most one re-arm,
two LED events and two relay pulses; and with the frame shape of rule R6 at most two frames, one if there are two pulses, so
that its blocking time is at most the longest one. -/
def Obligations.IterationContents : Prop :=
  ∀ s t : State, exec .iterate s = .next t → t.resets = s.resets →
    (observed (s.newEvents t)).head? = some .wdtKick ∧ (s.newEvents t).count .wdtKick = 1 ∧
      (s.newEvents t).count .rcRearm ≤ 1 ∧ (s.newEvents t).countP (fun e => e == .led true || e == .led false) ≤ 2 ∧
      pulses (s.newEvents t) ≤ 2 ∧
      (s.cfg.frameShape = true →
        (pinLevel (s.newEvents t)).length ≤ 2 * (121 * s.cfg.hpPerUnit) ∧
          (pulses (s.newEvents t) = 2 → (pinLevel (s.newEvents t)).length ≤ 121 * s.cfg.hpPerUnit) ∧
          pulses (s.newEvents t) * s.cfg.relayHold.toNat + (pinLevel (s.newEvents t)).length ≤ s.cfg.worstBlocking)

/-! ### Who writes and who reads -/

/-- Rules R11 to R15, R171: each register and latch is written by its own steps only: `AmpPrev` by step 2, `SrcPrev` by step 3,
`OFFT` by steps 3, 4 and 5, `LEDT` and `led` by steps 6 and 7; the relay is pulsed in steps 3, 4 and 5 only, and the
infrared pin is driven in steps 5 and 7 only. -/
def Obligations.RegisterWriters : Prop :=
  ∀ s t : State, s.phase ≠ .busy → (s.phase = .p1 → s.world.hostCall = none) → step s = .next t → t.resets = s.resets →
    (s.phase ≠ .p2 → t.ampPrev = s.ampPrev) ∧ (s.phase ≠ .p3 → t.srcPrev = s.srcPrev) ∧
      (s.phase ≠ .p3 → s.phase ≠ .p4 → s.phase ≠ .p5 → t.offt = s.offt ∧ pulses (s.newEvents t) = 0) ∧
      (s.phase ≠ .p6 → s.phase ≠ .p7 → t.ledt = s.ledt ∧ t.led = s.led) ∧
      (s.phase ≠ .p5 → s.phase ≠ .p7 → t.irOut = s.irOut ∧ pinLevel (s.newEvents t) = [])

/-- Rules R57, R131: no step but step 3 looks at the source's rail: with another level on the pin every other step does the
same. -/
def Obligations.SourceReadOnlyInStep3 : Prop :=
  ∀ (s t : State) (b : Bool), s.phase ≠ .p3 → (s.phase = .p1 → s.world.hostCall = none) → step s = .next t →
    ∃ t', step { s with world := { s.world with srcPin := b } } = .next t' ∧
      { t' with world := { t'.world with srcPin := false } } = { t with world := { t.world with srcPin := false } }

/-- Rules R20, R55: no step changes a parameter. -/
def Obligations.ParametersFixed : Prop :=
  ∀ s t : State, step s = .next t → t.cfg = s.cfg

/-! ### Timers over many iterations -/

/-- Rule R164: the off-delay fires exactly once: in a world that stays as it is, `n` iterations after it held `N` it holds
`N - n`, and the relay has been pulsed once if `N` iterations are over and the amplifier read ON, and not at all
otherwise; where it read OFF, the expiry is logged as redundant instead (rules R141, R201). -/
def Obligations.OffDelayFiresOnce : Prop :=
  ∀ (s : State) (n : Nat), s.phase = .p1 → s.world.still = true → s.srcSense = s.srcPrev → s.world.serial = none →
    s.world.decoder.report = none → s.offt ≠ 0 → s.cfg.worstBlocking + s.cfg.iterPeriod ≤ s.cfg.wdtPeriod →
    ∃ t, Sys2Proof.core.run (7 * n) s = .next t ∧ t.offt.toNat = s.offt.toNat - n ∧
      pulses (s.newEvents t) = (if s.offt.toNat ≤ n ∧ s.ampSense = true then 1 else 0) ∧
      (s.offt.toNat ≤ n → s.ampSense = false → .alreadyOff ∈ logged (s.newEvents t))

/-- Rule R167: the LED window: in such a world, `n` iterations after the window was armed to `N` the LED is lit exactly while
fewer than `N` iterations have passed, and it is turned off once. -/
def Obligations.LedWindowEndsOnce : Prop :=
  ∀ (s : State) (n : Nat), s.phase = .p1 → s.world.still = true → s.srcSense = s.srcPrev → s.world.serial = none →
    s.world.decoder.report = none → s.led = true → s.ledt ≠ 0 →
    s.cfg.worstBlocking + s.cfg.iterPeriod ≤ s.cfg.wdtPeriod →
    ∃ t, Sys2Proof.core.run (7 * n) s = .next t ∧ t.ledt.toNat = s.ledt.toNat - n ∧
      t.led = decide (n < s.ledt.toNat) ∧
      (s.newEvents t).count (.led false) = (if s.ledt.toNat ≤ n then 1 else 0)

/-! ### Invariants -/

/-- Rules R13, R14, R28, R48, R54, R144, R231: every step keeps the invariant: no operation in progress, pin low, coil
released, LED lit exactly while its window counts, timers within their constants, the decoder initialised and armed. -/
def Obligations.StepKeepsInvariant : Prop :=
  ∀ s t : State, s.Inv → step s = .next t → t.Inv

/-- Rules R27, R28, R231, R232: the machine right after reset has the invariant. -/
def Obligations.ResetHasInvariant : Prop := State.reset.Inv

/-- File 93, rules R202, R203: no step ends in a fault; a step is refused only for a host's 32-bit value that is no NEC
frame (rule R83). -/
def Obligations.StepAlwaysAnswers : Prop :=
  ∀ s : State, (∃ t, step s = .next t) ∨
    ∃ f, s.phase = .p1 ∧ s.world.hostCall = some (.nec32 f) ∧ isNecFrame f = false ∧
      step s = .refused (.hostFrameNotNec f)

/-! ### Reset and the watchdog -/

/-- Rules R6, R27: every parameter that rule R6 gives a value, and every register and latch, right after reset. `ret` is
reset to 0, which the model reads as the first of its values (log entry 4). `AmpPrev`, `SrcPrev`, `ser_lat` and `rc_lat` are
unspecified: free draws (log entries 2 and 3). That `WDT_PERIOD` is long enough is rule R242's condition on the environment,
built into the open parameters (log entry 1), and that the trace is empty is the model's choice (log entry 21). -/
def Obligations.ResetState : Prop :=
  State.reset.cfg.fCarrierHz = 38000 ∧ State.reset.cfg.tHalf = ⟨1, 76000⟩ ∧ State.reset.cfg.tUnitNs = 562500 ∧
    State.reset.cfg.cyclesPerUnit = 21 ∧ State.reset.cfg.hpPerUnit = 42 ∧ State.reset.cfg.relayHold = 7600 ∧
    State.reset.cfg.ledTicks = 5000 ∧ State.reset.cfg.timerBits = 16 ∧ State.reset.cfg.startBitsValid = 3 ∧
    State.reset.cfg.necAddr = 0x11 ∧ State.reset.cfg.cmdMute = 0x60 ∧ State.reset.cfg.cmdVolUp = 0x62 ∧
    State.reset.ret = .p3 ∧ State.reset.ampPrev = Config.freeAmpPrev 0 ∧ State.reset.srcPrev = Config.freeSrcPrev 0 ∧
    State.reset.serLat = Config.freeSerLat 0 ∧ State.reset.rcLat = Config.freeRcLat 0 ∧
    State.reset.cfg.frameShape = true ∧ State.reset.cfg.decidedTiming = true ∧ State.reset.cfg.legal = true ∧
    State.reset.cfg.worstBlocking + State.reset.cfg.iterPeriod < State.reset.cfg.wdtPeriod ∧
    State.reset.phase = .p1 ∧ State.reset.offt = 0 ∧ State.reset.ledt = 0 ∧ State.reset.irOut = false ∧
    State.reset.relay = false ∧ State.reset.led = false ∧ State.reset.sr = 0 ∧ State.reset.bitcnt = 0 ∧
    State.reset.unitcnt = 0 ∧ State.reset.cyccnt = 0 ∧ State.reset.half = false ∧ State.reset.mark = false ∧
    State.reset.rpt = false ∧ State.reset.txstate = .idle ∧ State.reset.holdcnt = 0 ∧
    State.reset.world.decoder.initialised = true ∧ State.reset.world.decoder.armed = true ∧
    State.reset.world.decoder.slot = none ∧ State.reset.world.wdt = 0 ∧ State.reset.trace = []

/-- Rules R27, R204, R208, R230, R231: a reset that is due beats the step: every register and latch takes its reset value,
`AmpPrev`, `SrcPrev`, `ser_lat` and `rc_lat` a new draw (log entries 2 and 3), `ret` the first of its values (log entry 4), an
active output is forced inactive, and control goes to step 1 (the world moves on after it, log entry 7). Rule R233 has an
active coil and a lit LED go inactive at once; that this shows in the trace as `Relay(0)` and `Led(0)`, exactly where they were
active, and as nothing else (but for log events, log entry 10), is the model's choice (log entry 16). -/
def Obligations.ResetTaken : Prop :=
  ∀ s : State, s.resetDue = true →
    ∃ t, step s = .next t ∧ t.cfg = s.cfg ∧ t.ampPrev = Config.freeAmpPrev (s.resets + 1) ∧
      t.srcPrev = Config.freeSrcPrev (s.resets + 1) ∧ t.serLat = Config.freeSerLat (s.resets + 1) ∧
      t.rcLat = Config.freeRcLat (s.resets + 1) ∧ t.ret = .p3 ∧ t.offt = 0 ∧ t.ledt = 0 ∧ t.irOut = false ∧ t.relay = false ∧
      t.led = false ∧ t.phase = .p1 ∧ t.sr = 0 ∧ t.bitcnt = 0 ∧ t.unitcnt = 0 ∧ t.cyccnt = 0 ∧ t.half = false ∧
      t.mark = false ∧ t.rpt = false ∧ t.txstate = .idle ∧ t.holdcnt = 0 ∧ t.world.decoder.initialised = true ∧
      t.world.decoder.armed = true ∧ t.world.wdt = 0 ∧ t.resets = s.resets + 1 ∧
      s.trace <+: t.trace ∧
      observed (s.newEvents t) = (if s.relay then [.relay false] else []) ++ (if s.led then [.led false] else [])

/-- Rule R233: a reset, from `rst` or from the watchdog, `k` half-periods into a relay pulse cuts it: `Relay(1), Hold(k),
Relay(0)`; in step 3, in step 4, and in step 5 for every byte of `AMP_ON` and `AMP_OFF`. The moment of a watchdog's reset (log
entry 8), the `Led(0)` of an LED that was lit, and a boot that takes no time (log entry 16) are the model's choice. `k` = 0 is
left out: what comes then is the model's choice too (log entry 16). -/
def Obligations.ResetCutsPulse : Prop :=
  ∀ (s : State) (k : Nat),
    (s.phase = .p3 ∧ s.srcPrev = false ∧ s.srcSense = true ∧ s.ampSense = false ∨
      s.phase = .p4 ∧ s.offt = 1 ∧ s.ampSense = true ∨
      s.phase = .p5 ∧ s.world.serial ∈ [some 0x6E, some 0x4E, some 0x31] ∧ s.ampSense = false ∨
      s.phase = .p5 ∧ s.world.serial ∈ [some 0x66, some 0x46, some 0x30] ∧ s.ampSense = true) →
    s.resetWithin (s.world.stall + k) (s.world.stall + s.cfg.relayHold.toNat) → 0 < k → k < s.cfg.relayHold.toNat →
    ∃ t, step s = .next t ∧
      observed (s.newEvents t) = [.relay true, .hold k, .relay false] ++ (if s.led then [.led false] else []) ∧
      t.relay = false ∧ t.led = false ∧ t.irOut = false ∧ t.holdcnt = 0 ∧ t.offt = 0 ∧ t.ledt = 0 ∧ t.phase = .p1 ∧
      t.resets = s.resets + 1 ∧ t.elapsed = s.elapsed + s.world.stall + k

/-- Rule R233: a reset, from `rst` or from the watchdog, `k` half-periods into a frame cuts it: its first `k` pin samples are
out, and the pin is low; for the frame of a serial infrared command (step 5), of a record (step 7), and for the command or
repeat frame of a host's call. The moment of a watchdog's reset (log entry 8), a boot that takes no time (log entry 16) and the
host's calls (log entry 9) are the model's choice; `k` = 0 is left out, as in `ResetCutsPulse`. -/
def Obligations.ResetCutsFrame : Prop :=
  ∀ (s : State) (k : Nat) (us : List Sym), s.cfg.frameShape = true → s.cfg.legal = true →
    (s.phase = .p5 ∧
        (∃ b cmd, s.world.serial = some b ∧ us = commandUnits s.cfg (necFrame s.cfg.necAddr cmd) ∧
          (b, cmd) ∈ [(0x6D, s.cfg.cmdMute), (0x4D, s.cfg.cmdMute), (0x2B, s.cfg.cmdVolUp), (0x2D, s.cfg.cmdVolDown)]) ∨
      s.phase = .p7 ∧
        (∃ r cmd, s.world.decoder.report = some r ∧ r.startbits = s.cfg.startBitsValid ∧ r.addr = s.cfg.remoteAddr ∧
          us = commandUnits s.cfg (necFrame s.cfg.necAddr cmd) ∧
          (r.cmd, cmd) ∈ [(s.cfg.rcVolUp, s.cfg.cmdVolUp), (s.cfg.rcVolDown, s.cfg.cmdVolDown), (s.cfg.rcMute, s.cfg.cmdMute)]) ∨
      s.phase = .p1 ∧
        ((∃ a cmd, s.world.hostCall = some (.nec32 (frameOfBytes a cmd)) ∧ us = commandUnits s.cfg (necFrame a cmd)) ∨
          s.world.hostCall = some .transmitRepeat ∧ us = repeatUnits s.cfg)) →
    s.resetWithin (s.world.stall + k) (s.world.stall + us.length * s.cfg.hpPerUnit) → 0 < k →
    k < us.length * s.cfg.hpPerUnit →
    ∃ t, step s = .next t ∧
      pinLevel (s.newEvents t) = (pinLevel (us.flatMap (unitEvents s.cfg))).take k ∧
      (pinLevel (s.newEvents t)).length = k ∧ t.irOut = false ∧ t.relay = false ∧ t.led = false ∧ t.ledt = 0 ∧
      t.txstate = .idle ∧ t.phase = .p1 ∧ t.resets = s.resets + 1 ∧ t.elapsed = s.elapsed + s.world.stall + k

/-- Rules R202, R204, R210: a collaborator that takes the watchdog past its period in any step ends in a reset, at the moment
the counter passes (log entry 8). -/
def Obligations.HangResets : Prop :=
  ∀ s : State, s.phase ≠ .busy → s.world.hostCall = none → s.world.calm = true → s.world.wdt ≤ s.cfg.wdtPeriod →
    s.cfg.wdtPeriod < s.world.wdt + s.world.stall →
    ∃ t, step s = .next t ∧ t.resets = s.resets + 1 ∧ t.phase = .p1 ∧ t.world.wdt = 0 ∧ t.offt = 0 ∧ t.ledt = 0 ∧
      t.elapsed = s.elapsed + (s.cfg.wdtPeriod - s.world.wdt)

/-- Rules R178, R242: where `WDT_PERIOD` covers the longest blocking time of an iteration, the loop's own time and the time
that the external collaborators take in any seven steps that follow one another, the watchdog never fires, whatever the pins,
the amplifier and the mailboxes do: every step keeps the budget and loses no state to a reset; so does every run; a reset
leaves the budget whole. A host's call (decision D31), which rule R242 does not count, fires it neither, if the counter has
room for the longest operation. -/
def Obligations.WatchdogNeverFires : Prop :=
  (∀ s : State, s.InBudget → ∃ t, step s = .next t ∧ t.resets = s.resets ∧ t.InBudget) ∧
    (∀ (s : State) (n : Nat), s.InBudget → ∃ t, Sys2Proof.core.run n s = .next t ∧ t.resets = s.resets ∧ t.InBudget) ∧
    (∀ (c : Config) (n : Nat) (w : World) (es : List Event) (now : Nat), c.frameShape = true →
      w.hostCall = none → w.pending.all Stimulus.unforced = true → w.fits c = true →
      (State.afterReset c n w es now).InBudget) ∧
    ∀ (s : State) (k : Call), s.phase = .p1 → s.world.hostCall = some k → (∀ f, k = .nec32 f → isNecFrame f = true) →
      { s with world := { s.world with hostCall := none } }.InBudget → s.slack (s.world.stall + s.cfg.longestCall) →
      ∃ t, step s = .next t ∧ t.resets = s.resets ∧ t.phase = .p1

/-! ### The reference micro-architecture -/

/-- Rules R16, R17, R142: a relay pulse clocked one half-period at a time leaves the same registers and the same trace, in
half-period steps, as the pulse that runs whole. -/
def Obligations.ClockedPulse : Prop :=
  ∀ s : State, s.atRest = true → s.phase ∈ [.p3, .p4, .p5] → s.world.calm = true → s.world.pending = [] →
    s.cfg.relayHold ≠ 0 → s.slack s.cfg.relayHold.toNat →
    ∃ t, exec .relayPulse s = .next t ∧
      (State.clockRun s.cfg.relayHold.toNat s.startPulse).untraced = { t with phase := s.phase.next }.untraced ∧
      halfPeriodSteps (State.clockRun s.cfg.relayHold.toNat s.startPulse).trace = halfPeriodSteps t.trace

/-- Rules R107, R120: a command frame, or a repeat frame, clocked one half-period at a time leaves the same registers and the
same trace, in half-period steps, as the frame that is sent whole. -/
def Obligations.ClockedTransmit : Prop :=
  ∀ (a k : Byte) (s : State), s.atRest = true → s.phase ∈ [.p5, .p7] → s.cfg.frameShape = true → s.world.calm = true →
    s.world.pending = [] → s.slack (121 * s.cfg.hpPerUnit) →
    (∃ t, exec (.transmit a k) s = .next t ∧
      (State.clockRun (121 * s.cfg.hpPerUnit) (s.startTransmit a k)).untraced =
        { t with phase := s.phase.next }.untraced ∧
      halfPeriodSteps (State.clockRun (121 * s.cfg.hpPerUnit) (s.startTransmit a k)).trace = halfPeriodSteps t.trace) ∧
    ∃ t, exec .transmitRepeat s = .next t ∧
      (State.clockRun (21 * s.cfg.hpPerUnit) s.startRepeat).untraced = { t with phase := s.phase.next }.untraced ∧
      halfPeriodSteps (State.clockRun (21 * s.cfg.hpPerUnit) s.startRepeat).trace = halfPeriodSteps t.trace
end

