-- ==== Sys2Proof/Laws/State.lean ====
section
/-! SUPPORT. One lemma for each field under each named update of the state, all true by `rfl`. -/

namespace Sys2Proof.Machine

variable (s : State)

/-! ### `State.emits` -/

@[simp] theorem State.emits_cfg (es : List Event) : (s.emits es).cfg = s.cfg := rfl
@[simp] theorem State.emits_ampPrev (es : List Event) : (s.emits es).ampPrev = s.ampPrev := rfl
@[simp] theorem State.emits_srcPrev (es : List Event) : (s.emits es).srcPrev = s.srcPrev := rfl
@[simp] theorem State.emits_offt (es : List Event) : (s.emits es).offt = s.offt := rfl
@[simp] theorem State.emits_ledt (es : List Event) : (s.emits es).ledt = s.ledt := rfl
@[simp] theorem State.emits_irOut (es : List Event) : (s.emits es).irOut = s.irOut := rfl
@[simp] theorem State.emits_relay (es : List Event) : (s.emits es).relay = s.relay := rfl
@[simp] theorem State.emits_led (es : List Event) : (s.emits es).led = s.led := rfl
@[simp] theorem State.emits_phase (es : List Event) : (s.emits es).phase = s.phase := rfl
@[simp] theorem State.emits_ret (es : List Event) : (s.emits es).ret = s.ret := rfl
@[simp] theorem State.emits_sr (es : List Event) : (s.emits es).sr = s.sr := rfl
@[simp] theorem State.emits_bitcnt (es : List Event) : (s.emits es).bitcnt = s.bitcnt := rfl
@[simp] theorem State.emits_unitcnt (es : List Event) : (s.emits es).unitcnt = s.unitcnt := rfl
@[simp] theorem State.emits_cyccnt (es : List Event) : (s.emits es).cyccnt = s.cyccnt := rfl
@[simp] theorem State.emits_half (es : List Event) : (s.emits es).half = s.half := rfl
@[simp] theorem State.emits_mark (es : List Event) : (s.emits es).mark = s.mark := rfl
@[simp] theorem State.emits_rpt (es : List Event) : (s.emits es).rpt = s.rpt := rfl
@[simp] theorem State.emits_txstate (es : List Event) : (s.emits es).txstate = s.txstate := rfl
@[simp] theorem State.emits_holdcnt (es : List Event) : (s.emits es).holdcnt = s.holdcnt := rfl
@[simp] theorem State.emits_serLat (es : List Event) : (s.emits es).serLat = s.serLat := rfl
@[simp] theorem State.emits_rcLat (es : List Event) : (s.emits es).rcLat = s.rcLat := rfl
@[simp] theorem State.emits_sampled (es : List Event) : (s.emits es).sampled = s.sampled := rfl
@[simp] theorem State.emits_trace (es : List Event) : (s.emits es).trace = s.trace ++ es := rfl
@[simp] theorem State.emits_elapsed (es : List Event) : (s.emits es).elapsed = s.elapsed := rfl
@[simp] theorem State.emits_resets (es : List Event) : (s.emits es).resets = s.resets := rfl
@[simp] theorem State.emits_world (es : List Event) : (s.emits es).world = s.world := rfl

/-! ### `State.wait` -/

@[simp] theorem State.wait_cfg (n : Nat) : (s.wait n).cfg = s.cfg := rfl
@[simp] theorem State.wait_ampPrev (n : Nat) : (s.wait n).ampPrev = s.ampPrev := rfl
@[simp] theorem State.wait_srcPrev (n : Nat) : (s.wait n).srcPrev = s.srcPrev := rfl
@[simp] theorem State.wait_offt (n : Nat) : (s.wait n).offt = s.offt := rfl
@[simp] theorem State.wait_ledt (n : Nat) : (s.wait n).ledt = s.ledt := rfl
@[simp] theorem State.wait_irOut (n : Nat) : (s.wait n).irOut = s.irOut := rfl
@[simp] theorem State.wait_relay (n : Nat) : (s.wait n).relay = s.relay := rfl
@[simp] theorem State.wait_led (n : Nat) : (s.wait n).led = s.led := rfl
@[simp] theorem State.wait_phase (n : Nat) : (s.wait n).phase = s.phase := rfl
@[simp] theorem State.wait_ret (n : Nat) : (s.wait n).ret = s.ret := rfl
@[simp] theorem State.wait_sr (n : Nat) : (s.wait n).sr = s.sr := rfl
@[simp] theorem State.wait_bitcnt (n : Nat) : (s.wait n).bitcnt = s.bitcnt := rfl
@[simp] theorem State.wait_unitcnt (n : Nat) : (s.wait n).unitcnt = s.unitcnt := rfl
@[simp] theorem State.wait_cyccnt (n : Nat) : (s.wait n).cyccnt = s.cyccnt := rfl
@[simp] theorem State.wait_half (n : Nat) : (s.wait n).half = s.half := rfl
@[simp] theorem State.wait_mark (n : Nat) : (s.wait n).mark = s.mark := rfl
@[simp] theorem State.wait_rpt (n : Nat) : (s.wait n).rpt = s.rpt := rfl
@[simp] theorem State.wait_txstate (n : Nat) : (s.wait n).txstate = s.txstate := rfl
@[simp] theorem State.wait_holdcnt (n : Nat) : (s.wait n).holdcnt = s.holdcnt := rfl
@[simp] theorem State.wait_serLat (n : Nat) : (s.wait n).serLat = s.serLat := rfl
@[simp] theorem State.wait_rcLat (n : Nat) : (s.wait n).rcLat = s.rcLat := rfl
@[simp] theorem State.wait_sampled (n : Nat) : (s.wait n).sampled = s.sampled := rfl
@[simp] theorem State.wait_trace (n : Nat) : (s.wait n).trace = s.trace := rfl
@[simp] theorem State.wait_elapsed (n : Nat) : (s.wait n).elapsed = s.elapsed + n := rfl
@[simp] theorem State.wait_resets (n : Nat) : (s.wait n).resets = s.resets := rfl
@[simp] theorem State.wait_world (n : Nat) : (s.wait n).world = s.world.tick s.cfg.wdtPeriod s.elapsed n := rfl

/-! ### `State.nextPhase` -/

@[simp] theorem State.nextPhase_cfg : (s.nextPhase).cfg = s.cfg := rfl
@[simp] theorem State.nextPhase_ampPrev : (s.nextPhase).ampPrev = s.ampPrev := rfl
@[simp] theorem State.nextPhase_srcPrev : (s.nextPhase).srcPrev = s.srcPrev := rfl
@[simp] theorem State.nextPhase_offt : (s.nextPhase).offt = s.offt := rfl
@[simp] theorem State.nextPhase_ledt : (s.nextPhase).ledt = s.ledt := rfl
@[simp] theorem State.nextPhase_irOut : (s.nextPhase).irOut = s.irOut := rfl
@[simp] theorem State.nextPhase_relay : (s.nextPhase).relay = s.relay := rfl
@[simp] theorem State.nextPhase_led : (s.nextPhase).led = s.led := rfl
@[simp] theorem State.nextPhase_phase : (s.nextPhase).phase = s.phase.next := rfl
@[simp] theorem State.nextPhase_ret : (s.nextPhase).ret = s.ret := rfl
@[simp] theorem State.nextPhase_sr : (s.nextPhase).sr = s.sr := rfl
@[simp] theorem State.nextPhase_bitcnt : (s.nextPhase).bitcnt = s.bitcnt := rfl
@[simp] theorem State.nextPhase_unitcnt : (s.nextPhase).unitcnt = s.unitcnt := rfl
@[simp] theorem State.nextPhase_cyccnt : (s.nextPhase).cyccnt = s.cyccnt := rfl
@[simp] theorem State.nextPhase_half : (s.nextPhase).half = s.half := rfl
@[simp] theorem State.nextPhase_mark : (s.nextPhase).mark = s.mark := rfl
@[simp] theorem State.nextPhase_rpt : (s.nextPhase).rpt = s.rpt := rfl
@[simp] theorem State.nextPhase_txstate : (s.nextPhase).txstate = s.txstate := rfl
@[simp] theorem State.nextPhase_holdcnt : (s.nextPhase).holdcnt = s.holdcnt := rfl
@[simp] theorem State.nextPhase_serLat : (s.nextPhase).serLat = s.serLat := rfl
@[simp] theorem State.nextPhase_rcLat : (s.nextPhase).rcLat = s.rcLat := rfl
@[simp] theorem State.nextPhase_sampled : (s.nextPhase).sampled = s.sampled := rfl
@[simp] theorem State.nextPhase_trace : (s.nextPhase).trace = s.trace := rfl
@[simp] theorem State.nextPhase_elapsed : (s.nextPhase).elapsed = s.elapsed := rfl
@[simp] theorem State.nextPhase_resets : (s.nextPhase).resets = s.resets := rfl
@[simp] theorem State.nextPhase_world : (s.nextPhase).world = s.world := rfl

/-! ### `State.writeLed` -/

@[simp] theorem State.writeLed_cfg (b : Bool) : (s.writeLed b).cfg = s.cfg := rfl
@[simp] theorem State.writeLed_ampPrev (b : Bool) : (s.writeLed b).ampPrev = s.ampPrev := rfl
@[simp] theorem State.writeLed_srcPrev (b : Bool) : (s.writeLed b).srcPrev = s.srcPrev := rfl
@[simp] theorem State.writeLed_offt (b : Bool) : (s.writeLed b).offt = s.offt := rfl
@[simp] theorem State.writeLed_ledt (b : Bool) : (s.writeLed b).ledt = s.ledt := rfl
@[simp] theorem State.writeLed_irOut (b : Bool) : (s.writeLed b).irOut = s.irOut := rfl
@[simp] theorem State.writeLed_relay (b : Bool) : (s.writeLed b).relay = s.relay := rfl
@[simp] theorem State.writeLed_led (b : Bool) : (s.writeLed b).led = b := rfl
@[simp] theorem State.writeLed_phase (b : Bool) : (s.writeLed b).phase = s.phase := rfl
@[simp] theorem State.writeLed_ret (b : Bool) : (s.writeLed b).ret = s.ret := rfl
@[simp] theorem State.writeLed_sr (b : Bool) : (s.writeLed b).sr = s.sr := rfl
@[simp] theorem State.writeLed_bitcnt (b : Bool) : (s.writeLed b).bitcnt = s.bitcnt := rfl
@[simp] theorem State.writeLed_unitcnt (b : Bool) : (s.writeLed b).unitcnt = s.unitcnt := rfl
@[simp] theorem State.writeLed_cyccnt (b : Bool) : (s.writeLed b).cyccnt = s.cyccnt := rfl
@[simp] theorem State.writeLed_half (b : Bool) : (s.writeLed b).half = s.half := rfl
@[simp] theorem State.writeLed_mark (b : Bool) : (s.writeLed b).mark = s.mark := rfl
@[simp] theorem State.writeLed_rpt (b : Bool) : (s.writeLed b).rpt = s.rpt := rfl
@[simp] theorem State.writeLed_txstate (b : Bool) : (s.writeLed b).txstate = s.txstate := rfl
@[simp] theorem State.writeLed_holdcnt (b : Bool) : (s.writeLed b).holdcnt = s.holdcnt := rfl
@[simp] theorem State.writeLed_serLat (b : Bool) : (s.writeLed b).serLat = s.serLat := rfl
@[simp] theorem State.writeLed_rcLat (b : Bool) : (s.writeLed b).rcLat = s.rcLat := rfl
@[simp] theorem State.writeLed_sampled (b : Bool) : (s.writeLed b).sampled = s.sampled := rfl
@[simp] theorem State.writeLed_trace (b : Bool) : (s.writeLed b).trace = s.trace ++ [.led b] := rfl
@[simp] theorem State.writeLed_elapsed (b : Bool) : (s.writeLed b).elapsed = s.elapsed := rfl
@[simp] theorem State.writeLed_resets (b : Bool) : (s.writeLed b).resets = s.resets := rfl
@[simp] theorem State.writeLed_world (b : Bool) : (s.writeLed b).world = s.world := rfl

/-! ### `State.kick` -/

@[simp] theorem State.kick_cfg : (s.kick).cfg = s.cfg := rfl
@[simp] theorem State.kick_ampPrev : (s.kick).ampPrev = s.ampPrev := rfl
@[simp] theorem State.kick_srcPrev : (s.kick).srcPrev = s.srcPrev := rfl
@[simp] theorem State.kick_offt : (s.kick).offt = s.offt := rfl
@[simp] theorem State.kick_ledt : (s.kick).ledt = s.ledt := rfl
@[simp] theorem State.kick_irOut : (s.kick).irOut = s.irOut := rfl
@[simp] theorem State.kick_relay : (s.kick).relay = s.relay := rfl
@[simp] theorem State.kick_led : (s.kick).led = s.led := rfl
@[simp] theorem State.kick_phase : (s.kick).phase = s.phase := rfl
@[simp] theorem State.kick_ret : (s.kick).ret = s.ret := rfl
@[simp] theorem State.kick_sr : (s.kick).sr = s.sr := rfl
@[simp] theorem State.kick_bitcnt : (s.kick).bitcnt = s.bitcnt := rfl
@[simp] theorem State.kick_unitcnt : (s.kick).unitcnt = s.unitcnt := rfl
@[simp] theorem State.kick_cyccnt : (s.kick).cyccnt = s.cyccnt := rfl
@[simp] theorem State.kick_half : (s.kick).half = s.half := rfl
@[simp] theorem State.kick_mark : (s.kick).mark = s.mark := rfl
@[simp] theorem State.kick_rpt : (s.kick).rpt = s.rpt := rfl
@[simp] theorem State.kick_txstate : (s.kick).txstate = s.txstate := rfl
@[simp] theorem State.kick_holdcnt : (s.kick).holdcnt = s.holdcnt := rfl
@[simp] theorem State.kick_serLat : (s.kick).serLat = s.serLat := rfl
@[simp] theorem State.kick_rcLat : (s.kick).rcLat = s.rcLat := rfl
@[simp] theorem State.kick_sampled : (s.kick).sampled = s.sampled := rfl
@[simp] theorem State.kick_trace : (s.kick).trace = s.trace ++ [.wdtKick] := rfl
@[simp] theorem State.kick_elapsed : (s.kick).elapsed = s.elapsed := rfl
@[simp] theorem State.kick_resets : (s.kick).resets = s.resets := rfl
@[simp] theorem State.kick_world : (s.kick).world = { s.world with wdt := 0 } := rfl

/-! ### `State.pollSerial` -/

@[simp] theorem State.pollSerial_cfg : (s.pollSerial).cfg = s.cfg := rfl
@[simp] theorem State.pollSerial_ampPrev : (s.pollSerial).ampPrev = s.ampPrev := rfl
@[simp] theorem State.pollSerial_srcPrev : (s.pollSerial).srcPrev = s.srcPrev := rfl
@[simp] theorem State.pollSerial_offt : (s.pollSerial).offt = s.offt := rfl
@[simp] theorem State.pollSerial_ledt : (s.pollSerial).ledt = s.ledt := rfl
@[simp] theorem State.pollSerial_irOut : (s.pollSerial).irOut = s.irOut := rfl
@[simp] theorem State.pollSerial_relay : (s.pollSerial).relay = s.relay := rfl
@[simp] theorem State.pollSerial_led : (s.pollSerial).led = s.led := rfl
@[simp] theorem State.pollSerial_phase : (s.pollSerial).phase = s.phase := rfl
@[simp] theorem State.pollSerial_ret : (s.pollSerial).ret = s.ret := rfl
@[simp] theorem State.pollSerial_sr : (s.pollSerial).sr = s.sr := rfl
@[simp] theorem State.pollSerial_bitcnt : (s.pollSerial).bitcnt = s.bitcnt := rfl
@[simp] theorem State.pollSerial_unitcnt : (s.pollSerial).unitcnt = s.unitcnt := rfl
@[simp] theorem State.pollSerial_cyccnt : (s.pollSerial).cyccnt = s.cyccnt := rfl
@[simp] theorem State.pollSerial_half : (s.pollSerial).half = s.half := rfl
@[simp] theorem State.pollSerial_mark : (s.pollSerial).mark = s.mark := rfl
@[simp] theorem State.pollSerial_rpt : (s.pollSerial).rpt = s.rpt := rfl
@[simp] theorem State.pollSerial_txstate : (s.pollSerial).txstate = s.txstate := rfl
@[simp] theorem State.pollSerial_holdcnt : (s.pollSerial).holdcnt = s.holdcnt := rfl
@[simp] theorem State.pollSerial_serLat : (s.pollSerial).serLat = s.world.serial := rfl
@[simp] theorem State.pollSerial_rcLat : (s.pollSerial).rcLat = s.rcLat := rfl
@[simp] theorem State.pollSerial_sampled : (s.pollSerial).sampled = s.sampled := rfl
@[simp] theorem State.pollSerial_trace : (s.pollSerial).trace = s.trace := rfl
@[simp] theorem State.pollSerial_elapsed : (s.pollSerial).elapsed = s.elapsed := rfl
@[simp] theorem State.pollSerial_resets : (s.pollSerial).resets = s.resets := rfl
@[simp] theorem State.pollSerial_world : (s.pollSerial).world = { s.world with serial := none } := rfl

/-! ### `State.takeRecord` -/

@[simp] theorem State.takeRecord_cfg (r : RcRecord) : (s.takeRecord r).cfg = s.cfg := rfl
@[simp] theorem State.takeRecord_ampPrev (r : RcRecord) : (s.takeRecord r).ampPrev = s.ampPrev := rfl
@[simp] theorem State.takeRecord_srcPrev (r : RcRecord) : (s.takeRecord r).srcPrev = s.srcPrev := rfl
@[simp] theorem State.takeRecord_offt (r : RcRecord) : (s.takeRecord r).offt = s.offt := rfl
@[simp] theorem State.takeRecord_ledt (r : RcRecord) : (s.takeRecord r).ledt = s.ledt := rfl
@[simp] theorem State.takeRecord_irOut (r : RcRecord) : (s.takeRecord r).irOut = s.irOut := rfl
@[simp] theorem State.takeRecord_relay (r : RcRecord) : (s.takeRecord r).relay = s.relay := rfl
@[simp] theorem State.takeRecord_led (r : RcRecord) : (s.takeRecord r).led = s.led := rfl
@[simp] theorem State.takeRecord_phase (r : RcRecord) : (s.takeRecord r).phase = s.phase := rfl
@[simp] theorem State.takeRecord_ret (r : RcRecord) : (s.takeRecord r).ret = s.ret := rfl
@[simp] theorem State.takeRecord_sr (r : RcRecord) : (s.takeRecord r).sr = s.sr := rfl
@[simp] theorem State.takeRecord_bitcnt (r : RcRecord) : (s.takeRecord r).bitcnt = s.bitcnt := rfl
@[simp] theorem State.takeRecord_unitcnt (r : RcRecord) : (s.takeRecord r).unitcnt = s.unitcnt := rfl
@[simp] theorem State.takeRecord_cyccnt (r : RcRecord) : (s.takeRecord r).cyccnt = s.cyccnt := rfl
@[simp] theorem State.takeRecord_half (r : RcRecord) : (s.takeRecord r).half = s.half := rfl
@[simp] theorem State.takeRecord_mark (r : RcRecord) : (s.takeRecord r).mark = s.mark := rfl
@[simp] theorem State.takeRecord_rpt (r : RcRecord) : (s.takeRecord r).rpt = s.rpt := rfl
@[simp] theorem State.takeRecord_txstate (r : RcRecord) : (s.takeRecord r).txstate = s.txstate := rfl
@[simp] theorem State.takeRecord_holdcnt (r : RcRecord) : (s.takeRecord r).holdcnt = s.holdcnt := rfl
@[simp] theorem State.takeRecord_serLat (r : RcRecord) : (s.takeRecord r).serLat = s.serLat := rfl
@[simp] theorem State.takeRecord_rcLat (r : RcRecord) : (s.takeRecord r).rcLat = r := rfl
@[simp] theorem State.takeRecord_sampled (r : RcRecord) : (s.takeRecord r).sampled = s.sampled := rfl
@[simp] theorem State.takeRecord_trace (r : RcRecord) : (s.takeRecord r).trace = s.trace := rfl
@[simp] theorem State.takeRecord_elapsed (r : RcRecord) : (s.takeRecord r).elapsed = s.elapsed := rfl
@[simp] theorem State.takeRecord_resets (r : RcRecord) : (s.takeRecord r).resets = s.resets := rfl
@[simp] theorem State.takeRecord_world (r : RcRecord) : (s.takeRecord r).world = { s.world with decoder := s.world.decoder.consumed } := rfl

/-! ### `State.rearm` -/

@[simp] theorem State.rearm_cfg : (s.rearm).cfg = s.cfg := rfl
@[simp] theorem State.rearm_ampPrev : (s.rearm).ampPrev = s.ampPrev := rfl
@[simp] theorem State.rearm_srcPrev : (s.rearm).srcPrev = s.srcPrev := rfl
@[simp] theorem State.rearm_offt : (s.rearm).offt = s.offt := rfl
@[simp] theorem State.rearm_ledt : (s.rearm).ledt = s.ledt := rfl
@[simp] theorem State.rearm_irOut : (s.rearm).irOut = s.irOut := rfl
@[simp] theorem State.rearm_relay : (s.rearm).relay = s.relay := rfl
@[simp] theorem State.rearm_led : (s.rearm).led = s.led := rfl
@[simp] theorem State.rearm_phase : (s.rearm).phase = s.phase := rfl
@[simp] theorem State.rearm_ret : (s.rearm).ret = s.ret := rfl
@[simp] theorem State.rearm_sr : (s.rearm).sr = s.sr := rfl
@[simp] theorem State.rearm_bitcnt : (s.rearm).bitcnt = s.bitcnt := rfl
@[simp] theorem State.rearm_unitcnt : (s.rearm).unitcnt = s.unitcnt := rfl
@[simp] theorem State.rearm_cyccnt : (s.rearm).cyccnt = s.cyccnt := rfl
@[simp] theorem State.rearm_half : (s.rearm).half = s.half := rfl
@[simp] theorem State.rearm_mark : (s.rearm).mark = s.mark := rfl
@[simp] theorem State.rearm_rpt : (s.rearm).rpt = s.rpt := rfl
@[simp] theorem State.rearm_txstate : (s.rearm).txstate = s.txstate := rfl
@[simp] theorem State.rearm_holdcnt : (s.rearm).holdcnt = s.holdcnt := rfl
@[simp] theorem State.rearm_serLat : (s.rearm).serLat = s.serLat := rfl
@[simp] theorem State.rearm_rcLat : (s.rearm).rcLat = s.rcLat := rfl
@[simp] theorem State.rearm_sampled : (s.rearm).sampled = s.sampled := rfl
@[simp] theorem State.rearm_trace : (s.rearm).trace = s.trace ++ [.rcRearm] := rfl
@[simp] theorem State.rearm_elapsed : (s.rearm).elapsed = s.elapsed := rfl
@[simp] theorem State.rearm_resets : (s.rearm).resets = s.resets := rfl
@[simp] theorem State.rearm_world : (s.rearm).world = { s.world with decoder := s.world.decoder.rearm } := rfl

/-! ### `State.sampleAmp` -/

@[simp] theorem State.sampleAmp_cfg : (s.sampleAmp).cfg = s.cfg := rfl
@[simp] theorem State.sampleAmp_ampPrev : (s.sampleAmp).ampPrev = s.ampPrev := rfl
@[simp] theorem State.sampleAmp_srcPrev : (s.sampleAmp).srcPrev = s.srcPrev := rfl
@[simp] theorem State.sampleAmp_offt : (s.sampleAmp).offt = s.offt := rfl
@[simp] theorem State.sampleAmp_ledt : (s.sampleAmp).ledt = s.ledt := rfl
@[simp] theorem State.sampleAmp_irOut : (s.sampleAmp).irOut = s.irOut := rfl
@[simp] theorem State.sampleAmp_relay : (s.sampleAmp).relay = s.relay := rfl
@[simp] theorem State.sampleAmp_led : (s.sampleAmp).led = s.led := rfl
@[simp] theorem State.sampleAmp_phase : (s.sampleAmp).phase = s.phase := rfl
@[simp] theorem State.sampleAmp_ret : (s.sampleAmp).ret = s.ret := rfl
@[simp] theorem State.sampleAmp_sr : (s.sampleAmp).sr = s.sr := rfl
@[simp] theorem State.sampleAmp_bitcnt : (s.sampleAmp).bitcnt = s.bitcnt := rfl
@[simp] theorem State.sampleAmp_unitcnt : (s.sampleAmp).unitcnt = s.unitcnt := rfl
@[simp] theorem State.sampleAmp_cyccnt : (s.sampleAmp).cyccnt = s.cyccnt := rfl
@[simp] theorem State.sampleAmp_half : (s.sampleAmp).half = s.half := rfl
@[simp] theorem State.sampleAmp_mark : (s.sampleAmp).mark = s.mark := rfl
@[simp] theorem State.sampleAmp_rpt : (s.sampleAmp).rpt = s.rpt := rfl
@[simp] theorem State.sampleAmp_txstate : (s.sampleAmp).txstate = s.txstate := rfl
@[simp] theorem State.sampleAmp_holdcnt : (s.sampleAmp).holdcnt = s.holdcnt := rfl
@[simp] theorem State.sampleAmp_serLat : (s.sampleAmp).serLat = s.serLat := rfl
@[simp] theorem State.sampleAmp_rcLat : (s.sampleAmp).rcLat = s.rcLat := rfl
@[simp] theorem State.sampleAmp_sampled : (s.sampleAmp).sampled = s.ampSense := rfl
@[simp] theorem State.sampleAmp_trace : (s.sampleAmp).trace = s.trace := rfl
@[simp] theorem State.sampleAmp_elapsed : (s.sampleAmp).elapsed = s.elapsed := rfl
@[simp] theorem State.sampleAmp_resets : (s.sampleAmp).resets = s.resets := rfl
@[simp] theorem State.sampleAmp_world : (s.sampleAmp).world = s.world := rfl

/-! ### `State.sampleSrc` -/

@[simp] theorem State.sampleSrc_cfg : (s.sampleSrc).cfg = s.cfg := rfl
@[simp] theorem State.sampleSrc_ampPrev : (s.sampleSrc).ampPrev = s.ampPrev := rfl
@[simp] theorem State.sampleSrc_srcPrev : (s.sampleSrc).srcPrev = s.srcPrev := rfl
@[simp] theorem State.sampleSrc_offt : (s.sampleSrc).offt = s.offt := rfl
@[simp] theorem State.sampleSrc_ledt : (s.sampleSrc).ledt = s.ledt := rfl
@[simp] theorem State.sampleSrc_irOut : (s.sampleSrc).irOut = s.irOut := rfl
@[simp] theorem State.sampleSrc_relay : (s.sampleSrc).relay = s.relay := rfl
@[simp] theorem State.sampleSrc_led : (s.sampleSrc).led = s.led := rfl
@[simp] theorem State.sampleSrc_phase : (s.sampleSrc).phase = s.phase := rfl
@[simp] theorem State.sampleSrc_ret : (s.sampleSrc).ret = s.ret := rfl
@[simp] theorem State.sampleSrc_sr : (s.sampleSrc).sr = s.sr := rfl
@[simp] theorem State.sampleSrc_bitcnt : (s.sampleSrc).bitcnt = s.bitcnt := rfl
@[simp] theorem State.sampleSrc_unitcnt : (s.sampleSrc).unitcnt = s.unitcnt := rfl
@[simp] theorem State.sampleSrc_cyccnt : (s.sampleSrc).cyccnt = s.cyccnt := rfl
@[simp] theorem State.sampleSrc_half : (s.sampleSrc).half = s.half := rfl
@[simp] theorem State.sampleSrc_mark : (s.sampleSrc).mark = s.mark := rfl
@[simp] theorem State.sampleSrc_rpt : (s.sampleSrc).rpt = s.rpt := rfl
@[simp] theorem State.sampleSrc_txstate : (s.sampleSrc).txstate = s.txstate := rfl
@[simp] theorem State.sampleSrc_holdcnt : (s.sampleSrc).holdcnt = s.holdcnt := rfl
@[simp] theorem State.sampleSrc_serLat : (s.sampleSrc).serLat = s.serLat := rfl
@[simp] theorem State.sampleSrc_rcLat : (s.sampleSrc).rcLat = s.rcLat := rfl
@[simp] theorem State.sampleSrc_sampled : (s.sampleSrc).sampled = s.srcSense := rfl
@[simp] theorem State.sampleSrc_trace : (s.sampleSrc).trace = s.trace := rfl
@[simp] theorem State.sampleSrc_elapsed : (s.sampleSrc).elapsed = s.elapsed := rfl
@[simp] theorem State.sampleSrc_resets : (s.sampleSrc).resets = s.resets := rfl
@[simp] theorem State.sampleSrc_world : (s.sampleSrc).world = s.world := rfl

/-! ### `State.ampOffDelay` -/

@[simp] theorem State.ampOffDelay_cfg : (s.ampOffDelay).cfg = s.cfg := rfl
@[simp] theorem State.ampOffDelay_ampPrev : (s.ampOffDelay).ampPrev = s.ampPrev := rfl
@[simp] theorem State.ampOffDelay_srcPrev : (s.ampOffDelay).srcPrev = s.srcPrev := rfl
@[simp] theorem State.ampOffDelay_offt : (s.ampOffDelay).offt = s.cfg.offDelayTicks := rfl
@[simp] theorem State.ampOffDelay_ledt : (s.ampOffDelay).ledt = s.ledt := rfl
@[simp] theorem State.ampOffDelay_irOut : (s.ampOffDelay).irOut = s.irOut := rfl
@[simp] theorem State.ampOffDelay_relay : (s.ampOffDelay).relay = s.relay := rfl
@[simp] theorem State.ampOffDelay_led : (s.ampOffDelay).led = s.led := rfl
@[simp] theorem State.ampOffDelay_phase : (s.ampOffDelay).phase = s.phase := rfl
@[simp] theorem State.ampOffDelay_ret : (s.ampOffDelay).ret = s.ret := rfl
@[simp] theorem State.ampOffDelay_sr : (s.ampOffDelay).sr = s.sr := rfl
@[simp] theorem State.ampOffDelay_bitcnt : (s.ampOffDelay).bitcnt = s.bitcnt := rfl
@[simp] theorem State.ampOffDelay_unitcnt : (s.ampOffDelay).unitcnt = s.unitcnt := rfl
@[simp] theorem State.ampOffDelay_cyccnt : (s.ampOffDelay).cyccnt = s.cyccnt := rfl
@[simp] theorem State.ampOffDelay_half : (s.ampOffDelay).half = s.half := rfl
@[simp] theorem State.ampOffDelay_mark : (s.ampOffDelay).mark = s.mark := rfl
@[simp] theorem State.ampOffDelay_rpt : (s.ampOffDelay).rpt = s.rpt := rfl
@[simp] theorem State.ampOffDelay_txstate : (s.ampOffDelay).txstate = s.txstate := rfl
@[simp] theorem State.ampOffDelay_holdcnt : (s.ampOffDelay).holdcnt = s.holdcnt := rfl
@[simp] theorem State.ampOffDelay_serLat : (s.ampOffDelay).serLat = s.serLat := rfl
@[simp] theorem State.ampOffDelay_rcLat : (s.ampOffDelay).rcLat = s.rcLat := rfl
@[simp] theorem State.ampOffDelay_sampled : (s.ampOffDelay).sampled = s.sampled := rfl
@[simp] theorem State.ampOffDelay_trace : (s.ampOffDelay).trace = s.trace := rfl
@[simp] theorem State.ampOffDelay_elapsed : (s.ampOffDelay).elapsed = s.elapsed := rfl
@[simp] theorem State.ampOffDelay_resets : (s.ampOffDelay).resets = s.resets := rfl
@[simp] theorem State.ampOffDelay_world : (s.ampOffDelay).world = s.world := rfl

/-! ### `State.armLed` -/

@[simp] theorem State.armLed_cfg : (s.armLed).cfg = s.cfg := rfl
@[simp] theorem State.armLed_ampPrev : (s.armLed).ampPrev = s.ampPrev := rfl
@[simp] theorem State.armLed_srcPrev : (s.armLed).srcPrev = s.srcPrev := rfl
@[simp] theorem State.armLed_offt : (s.armLed).offt = s.offt := rfl
@[simp] theorem State.armLed_ledt : (s.armLed).ledt = s.cfg.ledTicks := rfl
@[simp] theorem State.armLed_irOut : (s.armLed).irOut = s.irOut := rfl
@[simp] theorem State.armLed_relay : (s.armLed).relay = s.relay := rfl
@[simp] theorem State.armLed_led : (s.armLed).led = true := rfl
@[simp] theorem State.armLed_phase : (s.armLed).phase = s.phase := rfl
@[simp] theorem State.armLed_ret : (s.armLed).ret = s.ret := rfl
@[simp] theorem State.armLed_sr : (s.armLed).sr = s.sr := rfl
@[simp] theorem State.armLed_bitcnt : (s.armLed).bitcnt = s.bitcnt := rfl
@[simp] theorem State.armLed_unitcnt : (s.armLed).unitcnt = s.unitcnt := rfl
@[simp] theorem State.armLed_cyccnt : (s.armLed).cyccnt = s.cyccnt := rfl
@[simp] theorem State.armLed_half : (s.armLed).half = s.half := rfl
@[simp] theorem State.armLed_mark : (s.armLed).mark = s.mark := rfl
@[simp] theorem State.armLed_rpt : (s.armLed).rpt = s.rpt := rfl
@[simp] theorem State.armLed_txstate : (s.armLed).txstate = s.txstate := rfl
@[simp] theorem State.armLed_holdcnt : (s.armLed).holdcnt = s.holdcnt := rfl
@[simp] theorem State.armLed_serLat : (s.armLed).serLat = s.serLat := rfl
@[simp] theorem State.armLed_rcLat : (s.armLed).rcLat = s.rcLat := rfl
@[simp] theorem State.armLed_sampled : (s.armLed).sampled = s.sampled := rfl
@[simp] theorem State.armLed_trace : (s.armLed).trace = s.trace ++ [.led true] := rfl
@[simp] theorem State.armLed_elapsed : (s.armLed).elapsed = s.elapsed := rfl
@[simp] theorem State.armLed_resets : (s.armLed).resets = s.resets := rfl
@[simp] theorem State.armLed_world : (s.armLed).world = s.world := rfl

/-! ### `State.afterBurst` -/

@[simp] theorem State.afterBurst_cfg (m : Bool) (n : Units) (es : List Event) : (s.afterBurst m n es).cfg = s.cfg := rfl
@[simp] theorem State.afterBurst_ampPrev (m : Bool) (n : Units) (es : List Event) : (s.afterBurst m n es).ampPrev = s.ampPrev := rfl
@[simp] theorem State.afterBurst_srcPrev (m : Bool) (n : Units) (es : List Event) : (s.afterBurst m n es).srcPrev = s.srcPrev := rfl
@[simp] theorem State.afterBurst_offt (m : Bool) (n : Units) (es : List Event) : (s.afterBurst m n es).offt = s.offt := rfl
@[simp] theorem State.afterBurst_ledt (m : Bool) (n : Units) (es : List Event) : (s.afterBurst m n es).ledt = s.ledt := rfl
@[simp] theorem State.afterBurst_irOut (m : Bool) (n : Units) (es : List Event) : (s.afterBurst m n es).irOut = false := rfl
@[simp] theorem State.afterBurst_relay (m : Bool) (n : Units) (es : List Event) : (s.afterBurst m n es).relay = s.relay := rfl
@[simp] theorem State.afterBurst_led (m : Bool) (n : Units) (es : List Event) : (s.afterBurst m n es).led = s.led := rfl
@[simp] theorem State.afterBurst_phase (m : Bool) (n : Units) (es : List Event) : (s.afterBurst m n es).phase = s.phase := rfl
@[simp] theorem State.afterBurst_ret (m : Bool) (n : Units) (es : List Event) : (s.afterBurst m n es).ret = s.ret := rfl
@[simp] theorem State.afterBurst_sr (m : Bool) (n : Units) (es : List Event) : (s.afterBurst m n es).sr = s.sr := rfl
@[simp] theorem State.afterBurst_bitcnt (m : Bool) (n : Units) (es : List Event) : (s.afterBurst m n es).bitcnt = s.bitcnt := rfl
@[simp] theorem State.afterBurst_unitcnt (m : Bool) (n : Units) (es : List Event) : (s.afterBurst m n es).unitcnt = 0 := rfl
@[simp] theorem State.afterBurst_cyccnt (m : Bool) (n : Units) (es : List Event) : (s.afterBurst m n es).cyccnt = s.cfg.cyclesPerUnit := rfl
@[simp] theorem State.afterBurst_half (m : Bool) (n : Units) (es : List Event) : (s.afterBurst m n es).half = false := rfl
@[simp] theorem State.afterBurst_mark (m : Bool) (n : Units) (es : List Event) : (s.afterBurst m n es).mark = m := rfl
@[simp] theorem State.afterBurst_rpt (m : Bool) (n : Units) (es : List Event) : (s.afterBurst m n es).rpt = s.rpt := rfl
@[simp] theorem State.afterBurst_txstate (m : Bool) (n : Units) (es : List Event) : (s.afterBurst m n es).txstate = s.txstate := rfl
@[simp] theorem State.afterBurst_holdcnt (m : Bool) (n : Units) (es : List Event) : (s.afterBurst m n es).holdcnt = s.holdcnt := rfl
@[simp] theorem State.afterBurst_serLat (m : Bool) (n : Units) (es : List Event) : (s.afterBurst m n es).serLat = s.serLat := rfl
@[simp] theorem State.afterBurst_rcLat (m : Bool) (n : Units) (es : List Event) : (s.afterBurst m n es).rcLat = s.rcLat := rfl
@[simp] theorem State.afterBurst_sampled (m : Bool) (n : Units) (es : List Event) : (s.afterBurst m n es).sampled = s.sampled := rfl
@[simp] theorem State.afterBurst_trace (m : Bool) (n : Units) (es : List Event) : (s.afterBurst m n es).trace = s.trace ++ es := rfl
@[simp] theorem State.afterBurst_elapsed (m : Bool) (n : Units) (es : List Event) : (s.afterBurst m n es).elapsed = s.elapsed + n.toNat * s.cfg.hpPerUnit := rfl
@[simp] theorem State.afterBurst_resets (m : Bool) (n : Units) (es : List Event) : (s.afterBurst m n es).resets = s.resets := rfl
@[simp] theorem State.afterBurst_world (m : Bool) (n : Units) (es : List Event) : (s.afterBurst m n es).world = s.world.tick s.cfg.wdtPeriod s.elapsed (n.toNat * s.cfg.hpPerUnit) := rfl

/-! ### `State.relayPulse` -/

@[simp] theorem State.relayPulse_cfg : (s.relayPulse).cfg = s.cfg := rfl
@[simp] theorem State.relayPulse_ampPrev : (s.relayPulse).ampPrev = s.ampPrev := rfl
@[simp] theorem State.relayPulse_srcPrev : (s.relayPulse).srcPrev = s.srcPrev := rfl
@[simp] theorem State.relayPulse_offt : (s.relayPulse).offt = s.offt := rfl
@[simp] theorem State.relayPulse_ledt : (s.relayPulse).ledt = s.ledt := rfl
@[simp] theorem State.relayPulse_irOut : (s.relayPulse).irOut = s.irOut := rfl
@[simp] theorem State.relayPulse_relay : (s.relayPulse).relay = false := rfl
@[simp] theorem State.relayPulse_led : (s.relayPulse).led = s.led := rfl
@[simp] theorem State.relayPulse_phase : (s.relayPulse).phase = s.phase := rfl
@[simp] theorem State.relayPulse_ret : (s.relayPulse).ret = s.phase.toRet s.ret := rfl
@[simp] theorem State.relayPulse_sr : (s.relayPulse).sr = s.sr := rfl
@[simp] theorem State.relayPulse_bitcnt : (s.relayPulse).bitcnt = s.bitcnt := rfl
@[simp] theorem State.relayPulse_unitcnt : (s.relayPulse).unitcnt = s.unitcnt := rfl
@[simp] theorem State.relayPulse_cyccnt : (s.relayPulse).cyccnt = s.cyccnt := rfl
@[simp] theorem State.relayPulse_half : (s.relayPulse).half = s.half := rfl
@[simp] theorem State.relayPulse_mark : (s.relayPulse).mark = s.mark := rfl
@[simp] theorem State.relayPulse_rpt : (s.relayPulse).rpt = s.rpt := rfl
@[simp] theorem State.relayPulse_txstate : (s.relayPulse).txstate = s.txstate := rfl
@[simp] theorem State.relayPulse_holdcnt : (s.relayPulse).holdcnt = 0 := rfl
@[simp] theorem State.relayPulse_serLat : (s.relayPulse).serLat = s.serLat := rfl
@[simp] theorem State.relayPulse_rcLat : (s.relayPulse).rcLat = s.rcLat := rfl
@[simp] theorem State.relayPulse_sampled : (s.relayPulse).sampled = s.sampled := rfl
@[simp] theorem State.relayPulse_trace : (s.relayPulse).trace = s.trace ++ [.relay true, .hold s.cfg.relayHold.toNat, .relay false] := rfl
@[simp] theorem State.relayPulse_elapsed : (s.relayPulse).elapsed = s.elapsed + s.cfg.relayHold.toNat := rfl
@[simp] theorem State.relayPulse_resets : (s.relayPulse).resets = s.resets := rfl
@[simp] theorem State.relayPulse_world : (s.relayPulse).world = (s.world.tick s.cfg.wdtPeriod s.elapsed s.cfg.relayHold.toNat).toggleAmp := rfl

/-! ### `State.setPhase` -/

@[simp] theorem State.setPhase_cfg (p : Phase) : (s.setPhase p).cfg = s.cfg := rfl
@[simp] theorem State.setPhase_ampPrev (p : Phase) : (s.setPhase p).ampPrev = s.ampPrev := rfl
@[simp] theorem State.setPhase_srcPrev (p : Phase) : (s.setPhase p).srcPrev = s.srcPrev := rfl
@[simp] theorem State.setPhase_offt (p : Phase) : (s.setPhase p).offt = s.offt := rfl
@[simp] theorem State.setPhase_ledt (p : Phase) : (s.setPhase p).ledt = s.ledt := rfl
@[simp] theorem State.setPhase_irOut (p : Phase) : (s.setPhase p).irOut = s.irOut := rfl
@[simp] theorem State.setPhase_relay (p : Phase) : (s.setPhase p).relay = s.relay := rfl
@[simp] theorem State.setPhase_led (p : Phase) : (s.setPhase p).led = s.led := rfl
@[simp] theorem State.setPhase_phase (p : Phase) : (s.setPhase p).phase = p := rfl
@[simp] theorem State.setPhase_ret (p : Phase) : (s.setPhase p).ret = s.ret := rfl
@[simp] theorem State.setPhase_sr (p : Phase) : (s.setPhase p).sr = s.sr := rfl
@[simp] theorem State.setPhase_bitcnt (p : Phase) : (s.setPhase p).bitcnt = s.bitcnt := rfl
@[simp] theorem State.setPhase_unitcnt (p : Phase) : (s.setPhase p).unitcnt = s.unitcnt := rfl
@[simp] theorem State.setPhase_cyccnt (p : Phase) : (s.setPhase p).cyccnt = s.cyccnt := rfl
@[simp] theorem State.setPhase_half (p : Phase) : (s.setPhase p).half = s.half := rfl
@[simp] theorem State.setPhase_mark (p : Phase) : (s.setPhase p).mark = s.mark := rfl
@[simp] theorem State.setPhase_rpt (p : Phase) : (s.setPhase p).rpt = s.rpt := rfl
@[simp] theorem State.setPhase_txstate (p : Phase) : (s.setPhase p).txstate = s.txstate := rfl
@[simp] theorem State.setPhase_holdcnt (p : Phase) : (s.setPhase p).holdcnt = s.holdcnt := rfl
@[simp] theorem State.setPhase_serLat (p : Phase) : (s.setPhase p).serLat = s.serLat := rfl
@[simp] theorem State.setPhase_rcLat (p : Phase) : (s.setPhase p).rcLat = s.rcLat := rfl
@[simp] theorem State.setPhase_sampled (p : Phase) : (s.setPhase p).sampled = s.sampled := rfl
@[simp] theorem State.setPhase_trace (p : Phase) : (s.setPhase p).trace = s.trace := rfl
@[simp] theorem State.setPhase_elapsed (p : Phase) : (s.setPhase p).elapsed = s.elapsed := rfl
@[simp] theorem State.setPhase_resets (p : Phase) : (s.setPhase p).resets = s.resets := rfl
@[simp] theorem State.setPhase_world (p : Phase) : (s.setPhase p).world = s.world := rfl

/-! ### `State.setAmpPrev` -/

@[simp] theorem State.setAmpPrev_cfg (v : Bool) : (s.setAmpPrev v).cfg = s.cfg := rfl
@[simp] theorem State.setAmpPrev_ampPrev (v : Bool) : (s.setAmpPrev v).ampPrev = v := rfl
@[simp] theorem State.setAmpPrev_srcPrev (v : Bool) : (s.setAmpPrev v).srcPrev = s.srcPrev := rfl
@[simp] theorem State.setAmpPrev_offt (v : Bool) : (s.setAmpPrev v).offt = s.offt := rfl
@[simp] theorem State.setAmpPrev_ledt (v : Bool) : (s.setAmpPrev v).ledt = s.ledt := rfl
@[simp] theorem State.setAmpPrev_irOut (v : Bool) : (s.setAmpPrev v).irOut = s.irOut := rfl
@[simp] theorem State.setAmpPrev_relay (v : Bool) : (s.setAmpPrev v).relay = s.relay := rfl
@[simp] theorem State.setAmpPrev_led (v : Bool) : (s.setAmpPrev v).led = s.led := rfl
@[simp] theorem State.setAmpPrev_phase (v : Bool) : (s.setAmpPrev v).phase = s.phase := rfl
@[simp] theorem State.setAmpPrev_ret (v : Bool) : (s.setAmpPrev v).ret = s.ret := rfl
@[simp] theorem State.setAmpPrev_sr (v : Bool) : (s.setAmpPrev v).sr = s.sr := rfl
@[simp] theorem State.setAmpPrev_bitcnt (v : Bool) : (s.setAmpPrev v).bitcnt = s.bitcnt := rfl
@[simp] theorem State.setAmpPrev_unitcnt (v : Bool) : (s.setAmpPrev v).unitcnt = s.unitcnt := rfl
@[simp] theorem State.setAmpPrev_cyccnt (v : Bool) : (s.setAmpPrev v).cyccnt = s.cyccnt := rfl
@[simp] theorem State.setAmpPrev_half (v : Bool) : (s.setAmpPrev v).half = s.half := rfl
@[simp] theorem State.setAmpPrev_mark (v : Bool) : (s.setAmpPrev v).mark = s.mark := rfl
@[simp] theorem State.setAmpPrev_rpt (v : Bool) : (s.setAmpPrev v).rpt = s.rpt := rfl
@[simp] theorem State.setAmpPrev_txstate (v : Bool) : (s.setAmpPrev v).txstate = s.txstate := rfl
@[simp] theorem State.setAmpPrev_holdcnt (v : Bool) : (s.setAmpPrev v).holdcnt = s.holdcnt := rfl
@[simp] theorem State.setAmpPrev_serLat (v : Bool) : (s.setAmpPrev v).serLat = s.serLat := rfl
@[simp] theorem State.setAmpPrev_rcLat (v : Bool) : (s.setAmpPrev v).rcLat = s.rcLat := rfl
@[simp] theorem State.setAmpPrev_sampled (v : Bool) : (s.setAmpPrev v).sampled = s.sampled := rfl
@[simp] theorem State.setAmpPrev_trace (v : Bool) : (s.setAmpPrev v).trace = s.trace := rfl
@[simp] theorem State.setAmpPrev_elapsed (v : Bool) : (s.setAmpPrev v).elapsed = s.elapsed := rfl
@[simp] theorem State.setAmpPrev_resets (v : Bool) : (s.setAmpPrev v).resets = s.resets := rfl
@[simp] theorem State.setAmpPrev_world (v : Bool) : (s.setAmpPrev v).world = s.world := rfl

/-! ### `State.setSrcPrev` -/

@[simp] theorem State.setSrcPrev_cfg (v : Bool) : (s.setSrcPrev v).cfg = s.cfg := rfl
@[simp] theorem State.setSrcPrev_ampPrev (v : Bool) : (s.setSrcPrev v).ampPrev = s.ampPrev := rfl
@[simp] theorem State.setSrcPrev_srcPrev (v : Bool) : (s.setSrcPrev v).srcPrev = v := rfl
@[simp] theorem State.setSrcPrev_offt (v : Bool) : (s.setSrcPrev v).offt = s.offt := rfl
@[simp] theorem State.setSrcPrev_ledt (v : Bool) : (s.setSrcPrev v).ledt = s.ledt := rfl
@[simp] theorem State.setSrcPrev_irOut (v : Bool) : (s.setSrcPrev v).irOut = s.irOut := rfl
@[simp] theorem State.setSrcPrev_relay (v : Bool) : (s.setSrcPrev v).relay = s.relay := rfl
@[simp] theorem State.setSrcPrev_led (v : Bool) : (s.setSrcPrev v).led = s.led := rfl
@[simp] theorem State.setSrcPrev_phase (v : Bool) : (s.setSrcPrev v).phase = s.phase := rfl
@[simp] theorem State.setSrcPrev_ret (v : Bool) : (s.setSrcPrev v).ret = s.ret := rfl
@[simp] theorem State.setSrcPrev_sr (v : Bool) : (s.setSrcPrev v).sr = s.sr := rfl
@[simp] theorem State.setSrcPrev_bitcnt (v : Bool) : (s.setSrcPrev v).bitcnt = s.bitcnt := rfl
@[simp] theorem State.setSrcPrev_unitcnt (v : Bool) : (s.setSrcPrev v).unitcnt = s.unitcnt := rfl
@[simp] theorem State.setSrcPrev_cyccnt (v : Bool) : (s.setSrcPrev v).cyccnt = s.cyccnt := rfl
@[simp] theorem State.setSrcPrev_half (v : Bool) : (s.setSrcPrev v).half = s.half := rfl
@[simp] theorem State.setSrcPrev_mark (v : Bool) : (s.setSrcPrev v).mark = s.mark := rfl
@[simp] theorem State.setSrcPrev_rpt (v : Bool) : (s.setSrcPrev v).rpt = s.rpt := rfl
@[simp] theorem State.setSrcPrev_txstate (v : Bool) : (s.setSrcPrev v).txstate = s.txstate := rfl
@[simp] theorem State.setSrcPrev_holdcnt (v : Bool) : (s.setSrcPrev v).holdcnt = s.holdcnt := rfl
@[simp] theorem State.setSrcPrev_serLat (v : Bool) : (s.setSrcPrev v).serLat = s.serLat := rfl
@[simp] theorem State.setSrcPrev_rcLat (v : Bool) : (s.setSrcPrev v).rcLat = s.rcLat := rfl
@[simp] theorem State.setSrcPrev_sampled (v : Bool) : (s.setSrcPrev v).sampled = s.sampled := rfl
@[simp] theorem State.setSrcPrev_trace (v : Bool) : (s.setSrcPrev v).trace = s.trace := rfl
@[simp] theorem State.setSrcPrev_elapsed (v : Bool) : (s.setSrcPrev v).elapsed = s.elapsed := rfl
@[simp] theorem State.setSrcPrev_resets (v : Bool) : (s.setSrcPrev v).resets = s.resets := rfl
@[simp] theorem State.setSrcPrev_world (v : Bool) : (s.setSrcPrev v).world = s.world := rfl

/-! ### `State.setOfft` -/

@[simp] theorem State.setOfft_cfg (v : Timer) : (s.setOfft v).cfg = s.cfg := rfl
@[simp] theorem State.setOfft_ampPrev (v : Timer) : (s.setOfft v).ampPrev = s.ampPrev := rfl
@[simp] theorem State.setOfft_srcPrev (v : Timer) : (s.setOfft v).srcPrev = s.srcPrev := rfl
@[simp] theorem State.setOfft_offt (v : Timer) : (s.setOfft v).offt = v := rfl
@[simp] theorem State.setOfft_ledt (v : Timer) : (s.setOfft v).ledt = s.ledt := rfl
@[simp] theorem State.setOfft_irOut (v : Timer) : (s.setOfft v).irOut = s.irOut := rfl
@[simp] theorem State.setOfft_relay (v : Timer) : (s.setOfft v).relay = s.relay := rfl
@[simp] theorem State.setOfft_led (v : Timer) : (s.setOfft v).led = s.led := rfl
@[simp] theorem State.setOfft_phase (v : Timer) : (s.setOfft v).phase = s.phase := rfl
@[simp] theorem State.setOfft_ret (v : Timer) : (s.setOfft v).ret = s.ret := rfl
@[simp] theorem State.setOfft_sr (v : Timer) : (s.setOfft v).sr = s.sr := rfl
@[simp] theorem State.setOfft_bitcnt (v : Timer) : (s.setOfft v).bitcnt = s.bitcnt := rfl
@[simp] theorem State.setOfft_unitcnt (v : Timer) : (s.setOfft v).unitcnt = s.unitcnt := rfl
@[simp] theorem State.setOfft_cyccnt (v : Timer) : (s.setOfft v).cyccnt = s.cyccnt := rfl
@[simp] theorem State.setOfft_half (v : Timer) : (s.setOfft v).half = s.half := rfl
@[simp] theorem State.setOfft_mark (v : Timer) : (s.setOfft v).mark = s.mark := rfl
@[simp] theorem State.setOfft_rpt (v : Timer) : (s.setOfft v).rpt = s.rpt := rfl
@[simp] theorem State.setOfft_txstate (v : Timer) : (s.setOfft v).txstate = s.txstate := rfl
@[simp] theorem State.setOfft_holdcnt (v : Timer) : (s.setOfft v).holdcnt = s.holdcnt := rfl
@[simp] theorem State.setOfft_serLat (v : Timer) : (s.setOfft v).serLat = s.serLat := rfl
@[simp] theorem State.setOfft_rcLat (v : Timer) : (s.setOfft v).rcLat = s.rcLat := rfl
@[simp] theorem State.setOfft_sampled (v : Timer) : (s.setOfft v).sampled = s.sampled := rfl
@[simp] theorem State.setOfft_trace (v : Timer) : (s.setOfft v).trace = s.trace := rfl
@[simp] theorem State.setOfft_elapsed (v : Timer) : (s.setOfft v).elapsed = s.elapsed := rfl
@[simp] theorem State.setOfft_resets (v : Timer) : (s.setOfft v).resets = s.resets := rfl
@[simp] theorem State.setOfft_world (v : Timer) : (s.setOfft v).world = s.world := rfl

/-! ### `State.setLedt` -/

@[simp] theorem State.setLedt_cfg (v : Timer) : (s.setLedt v).cfg = s.cfg := rfl
@[simp] theorem State.setLedt_ampPrev (v : Timer) : (s.setLedt v).ampPrev = s.ampPrev := rfl
@[simp] theorem State.setLedt_srcPrev (v : Timer) : (s.setLedt v).srcPrev = s.srcPrev := rfl
@[simp] theorem State.setLedt_offt (v : Timer) : (s.setLedt v).offt = s.offt := rfl
@[simp] theorem State.setLedt_ledt (v : Timer) : (s.setLedt v).ledt = v := rfl
@[simp] theorem State.setLedt_irOut (v : Timer) : (s.setLedt v).irOut = s.irOut := rfl
@[simp] theorem State.setLedt_relay (v : Timer) : (s.setLedt v).relay = s.relay := rfl
@[simp] theorem State.setLedt_led (v : Timer) : (s.setLedt v).led = s.led := rfl
@[simp] theorem State.setLedt_phase (v : Timer) : (s.setLedt v).phase = s.phase := rfl
@[simp] theorem State.setLedt_ret (v : Timer) : (s.setLedt v).ret = s.ret := rfl
@[simp] theorem State.setLedt_sr (v : Timer) : (s.setLedt v).sr = s.sr := rfl
@[simp] theorem State.setLedt_bitcnt (v : Timer) : (s.setLedt v).bitcnt = s.bitcnt := rfl
@[simp] theorem State.setLedt_unitcnt (v : Timer) : (s.setLedt v).unitcnt = s.unitcnt := rfl
@[simp] theorem State.setLedt_cyccnt (v : Timer) : (s.setLedt v).cyccnt = s.cyccnt := rfl
@[simp] theorem State.setLedt_half (v : Timer) : (s.setLedt v).half = s.half := rfl
@[simp] theorem State.setLedt_mark (v : Timer) : (s.setLedt v).mark = s.mark := rfl
@[simp] theorem State.setLedt_rpt (v : Timer) : (s.setLedt v).rpt = s.rpt := rfl
@[simp] theorem State.setLedt_txstate (v : Timer) : (s.setLedt v).txstate = s.txstate := rfl
@[simp] theorem State.setLedt_holdcnt (v : Timer) : (s.setLedt v).holdcnt = s.holdcnt := rfl
@[simp] theorem State.setLedt_serLat (v : Timer) : (s.setLedt v).serLat = s.serLat := rfl
@[simp] theorem State.setLedt_rcLat (v : Timer) : (s.setLedt v).rcLat = s.rcLat := rfl
@[simp] theorem State.setLedt_sampled (v : Timer) : (s.setLedt v).sampled = s.sampled := rfl
@[simp] theorem State.setLedt_trace (v : Timer) : (s.setLedt v).trace = s.trace := rfl
@[simp] theorem State.setLedt_elapsed (v : Timer) : (s.setLedt v).elapsed = s.elapsed := rfl
@[simp] theorem State.setLedt_resets (v : Timer) : (s.setLedt v).resets = s.resets := rfl
@[simp] theorem State.setLedt_world (v : Timer) : (s.setLedt v).world = s.world := rfl

/-! ### `State.restGenerator` -/

@[simp] theorem State.restGenerator_cfg (m : Bool) : (s.restGenerator m).cfg = s.cfg := rfl
@[simp] theorem State.restGenerator_ampPrev (m : Bool) : (s.restGenerator m).ampPrev = s.ampPrev := rfl
@[simp] theorem State.restGenerator_srcPrev (m : Bool) : (s.restGenerator m).srcPrev = s.srcPrev := rfl
@[simp] theorem State.restGenerator_offt (m : Bool) : (s.restGenerator m).offt = s.offt := rfl
@[simp] theorem State.restGenerator_ledt (m : Bool) : (s.restGenerator m).ledt = s.ledt := rfl
@[simp] theorem State.restGenerator_irOut (m : Bool) : (s.restGenerator m).irOut = false := rfl
@[simp] theorem State.restGenerator_relay (m : Bool) : (s.restGenerator m).relay = s.relay := rfl
@[simp] theorem State.restGenerator_led (m : Bool) : (s.restGenerator m).led = s.led := rfl
@[simp] theorem State.restGenerator_phase (m : Bool) : (s.restGenerator m).phase = s.phase := rfl
@[simp] theorem State.restGenerator_ret (m : Bool) : (s.restGenerator m).ret = s.ret := rfl
@[simp] theorem State.restGenerator_sr (m : Bool) : (s.restGenerator m).sr = s.sr := rfl
@[simp] theorem State.restGenerator_bitcnt (m : Bool) : (s.restGenerator m).bitcnt = s.bitcnt := rfl
@[simp] theorem State.restGenerator_unitcnt (m : Bool) : (s.restGenerator m).unitcnt = 0 := rfl
@[simp] theorem State.restGenerator_cyccnt (m : Bool) : (s.restGenerator m).cyccnt = s.cfg.cyclesPerUnit := rfl
@[simp] theorem State.restGenerator_half (m : Bool) : (s.restGenerator m).half = false := rfl
@[simp] theorem State.restGenerator_mark (m : Bool) : (s.restGenerator m).mark = m := rfl
@[simp] theorem State.restGenerator_rpt (m : Bool) : (s.restGenerator m).rpt = s.rpt := rfl
@[simp] theorem State.restGenerator_txstate (m : Bool) : (s.restGenerator m).txstate = s.txstate := rfl
@[simp] theorem State.restGenerator_holdcnt (m : Bool) : (s.restGenerator m).holdcnt = s.holdcnt := rfl
@[simp] theorem State.restGenerator_serLat (m : Bool) : (s.restGenerator m).serLat = s.serLat := rfl
@[simp] theorem State.restGenerator_rcLat (m : Bool) : (s.restGenerator m).rcLat = s.rcLat := rfl
@[simp] theorem State.restGenerator_sampled (m : Bool) : (s.restGenerator m).sampled = s.sampled := rfl
@[simp] theorem State.restGenerator_trace (m : Bool) : (s.restGenerator m).trace = s.trace := rfl
@[simp] theorem State.restGenerator_elapsed (m : Bool) : (s.restGenerator m).elapsed = s.elapsed := rfl
@[simp] theorem State.restGenerator_resets (m : Bool) : (s.restGenerator m).resets = s.resets := rfl
@[simp] theorem State.restGenerator_world (m : Bool) : (s.restGenerator m).world = s.world := rfl

/-! ### `State.loadFrame` -/

@[simp] theorem State.loadFrame_cfg (f : Frame) (n : BitCount) (r : Bool) : (s.loadFrame f n r).cfg = s.cfg := rfl
@[simp] theorem State.loadFrame_ampPrev (f : Frame) (n : BitCount) (r : Bool) : (s.loadFrame f n r).ampPrev = s.ampPrev := rfl
@[simp] theorem State.loadFrame_srcPrev (f : Frame) (n : BitCount) (r : Bool) : (s.loadFrame f n r).srcPrev = s.srcPrev := rfl
@[simp] theorem State.loadFrame_offt (f : Frame) (n : BitCount) (r : Bool) : (s.loadFrame f n r).offt = s.offt := rfl
@[simp] theorem State.loadFrame_ledt (f : Frame) (n : BitCount) (r : Bool) : (s.loadFrame f n r).ledt = s.ledt := rfl
@[simp] theorem State.loadFrame_irOut (f : Frame) (n : BitCount) (r : Bool) : (s.loadFrame f n r).irOut = s.irOut := rfl
@[simp] theorem State.loadFrame_relay (f : Frame) (n : BitCount) (r : Bool) : (s.loadFrame f n r).relay = s.relay := rfl
@[simp] theorem State.loadFrame_led (f : Frame) (n : BitCount) (r : Bool) : (s.loadFrame f n r).led = s.led := rfl
@[simp] theorem State.loadFrame_phase (f : Frame) (n : BitCount) (r : Bool) : (s.loadFrame f n r).phase = s.phase := rfl
@[simp] theorem State.loadFrame_ret (f : Frame) (n : BitCount) (r : Bool) : (s.loadFrame f n r).ret = s.phase.toRet s.ret := rfl
@[simp] theorem State.loadFrame_sr (f : Frame) (n : BitCount) (r : Bool) : (s.loadFrame f n r).sr = f := rfl
@[simp] theorem State.loadFrame_bitcnt (f : Frame) (n : BitCount) (r : Bool) : (s.loadFrame f n r).bitcnt = n := rfl
@[simp] theorem State.loadFrame_unitcnt (f : Frame) (n : BitCount) (r : Bool) : (s.loadFrame f n r).unitcnt = s.unitcnt := rfl
@[simp] theorem State.loadFrame_cyccnt (f : Frame) (n : BitCount) (r : Bool) : (s.loadFrame f n r).cyccnt = s.cyccnt := rfl
@[simp] theorem State.loadFrame_half (f : Frame) (n : BitCount) (r : Bool) : (s.loadFrame f n r).half = s.half := rfl
@[simp] theorem State.loadFrame_mark (f : Frame) (n : BitCount) (r : Bool) : (s.loadFrame f n r).mark = s.mark := rfl
@[simp] theorem State.loadFrame_rpt (f : Frame) (n : BitCount) (r : Bool) : (s.loadFrame f n r).rpt = r := rfl
@[simp] theorem State.loadFrame_txstate (f : Frame) (n : BitCount) (r : Bool) : (s.loadFrame f n r).txstate = .leadMark := rfl
@[simp] theorem State.loadFrame_holdcnt (f : Frame) (n : BitCount) (r : Bool) : (s.loadFrame f n r).holdcnt = s.holdcnt := rfl
@[simp] theorem State.loadFrame_serLat (f : Frame) (n : BitCount) (r : Bool) : (s.loadFrame f n r).serLat = s.serLat := rfl
@[simp] theorem State.loadFrame_rcLat (f : Frame) (n : BitCount) (r : Bool) : (s.loadFrame f n r).rcLat = s.rcLat := rfl
@[simp] theorem State.loadFrame_sampled (f : Frame) (n : BitCount) (r : Bool) : (s.loadFrame f n r).sampled = s.sampled := rfl
@[simp] theorem State.loadFrame_trace (f : Frame) (n : BitCount) (r : Bool) : (s.loadFrame f n r).trace = s.trace := rfl
@[simp] theorem State.loadFrame_elapsed (f : Frame) (n : BitCount) (r : Bool) : (s.loadFrame f n r).elapsed = s.elapsed := rfl
@[simp] theorem State.loadFrame_resets (f : Frame) (n : BitCount) (r : Bool) : (s.loadFrame f n r).resets = s.resets := rfl
@[simp] theorem State.loadFrame_world (f : Frame) (n : BitCount) (r : Bool) : (s.loadFrame f n r).world = s.world := rfl

/-! ### `State.restTransmitter` -/

@[simp] theorem State.restTransmitter_cfg (f : Frame) : (s.restTransmitter f).cfg = s.cfg := rfl
@[simp] theorem State.restTransmitter_ampPrev (f : Frame) : (s.restTransmitter f).ampPrev = s.ampPrev := rfl
@[simp] theorem State.restTransmitter_srcPrev (f : Frame) : (s.restTransmitter f).srcPrev = s.srcPrev := rfl
@[simp] theorem State.restTransmitter_offt (f : Frame) : (s.restTransmitter f).offt = s.offt := rfl
@[simp] theorem State.restTransmitter_ledt (f : Frame) : (s.restTransmitter f).ledt = s.ledt := rfl
@[simp] theorem State.restTransmitter_irOut (f : Frame) : (s.restTransmitter f).irOut = false := rfl
@[simp] theorem State.restTransmitter_relay (f : Frame) : (s.restTransmitter f).relay = s.relay := rfl
@[simp] theorem State.restTransmitter_led (f : Frame) : (s.restTransmitter f).led = s.led := rfl
@[simp] theorem State.restTransmitter_phase (f : Frame) : (s.restTransmitter f).phase = s.phase := rfl
@[simp] theorem State.restTransmitter_ret (f : Frame) : (s.restTransmitter f).ret = s.ret := rfl
@[simp] theorem State.restTransmitter_sr (f : Frame) : (s.restTransmitter f).sr = f := rfl
@[simp] theorem State.restTransmitter_bitcnt (f : Frame) : (s.restTransmitter f).bitcnt = 0 := rfl
@[simp] theorem State.restTransmitter_unitcnt (f : Frame) : (s.restTransmitter f).unitcnt = s.unitcnt := rfl
@[simp] theorem State.restTransmitter_cyccnt (f : Frame) : (s.restTransmitter f).cyccnt = s.cyccnt := rfl
@[simp] theorem State.restTransmitter_half (f : Frame) : (s.restTransmitter f).half = s.half := rfl
@[simp] theorem State.restTransmitter_mark (f : Frame) : (s.restTransmitter f).mark = s.mark := rfl
@[simp] theorem State.restTransmitter_rpt (f : Frame) : (s.restTransmitter f).rpt = s.rpt := rfl
@[simp] theorem State.restTransmitter_txstate (f : Frame) : (s.restTransmitter f).txstate = .idle := rfl
@[simp] theorem State.restTransmitter_holdcnt (f : Frame) : (s.restTransmitter f).holdcnt = s.holdcnt := rfl
@[simp] theorem State.restTransmitter_serLat (f : Frame) : (s.restTransmitter f).serLat = s.serLat := rfl
@[simp] theorem State.restTransmitter_rcLat (f : Frame) : (s.restTransmitter f).rcLat = s.rcLat := rfl
@[simp] theorem State.restTransmitter_sampled (f : Frame) : (s.restTransmitter f).sampled = s.sampled := rfl
@[simp] theorem State.restTransmitter_trace (f : Frame) : (s.restTransmitter f).trace = s.trace := rfl
@[simp] theorem State.restTransmitter_elapsed (f : Frame) : (s.restTransmitter f).elapsed = s.elapsed := rfl
@[simp] theorem State.restTransmitter_resets (f : Frame) : (s.restTransmitter f).resets = s.resets := rfl
@[simp] theorem State.restTransmitter_world (f : Frame) : (s.restTransmitter f).world = s.world := rfl

/-! ### `State.releaseRelay` -/

@[simp] theorem State.releaseRelay_cfg : (s.releaseRelay).cfg = s.cfg := rfl
@[simp] theorem State.releaseRelay_ampPrev : (s.releaseRelay).ampPrev = s.ampPrev := rfl
@[simp] theorem State.releaseRelay_srcPrev : (s.releaseRelay).srcPrev = s.srcPrev := rfl
@[simp] theorem State.releaseRelay_offt : (s.releaseRelay).offt = s.offt := rfl
@[simp] theorem State.releaseRelay_ledt : (s.releaseRelay).ledt = s.ledt := rfl
@[simp] theorem State.releaseRelay_irOut : (s.releaseRelay).irOut = s.irOut := rfl
@[simp] theorem State.releaseRelay_relay : (s.releaseRelay).relay = false := rfl
@[simp] theorem State.releaseRelay_led : (s.releaseRelay).led = s.led := rfl
@[simp] theorem State.releaseRelay_phase : (s.releaseRelay).phase = s.phase := rfl
@[simp] theorem State.releaseRelay_ret : (s.releaseRelay).ret = s.phase.toRet s.ret := rfl
@[simp] theorem State.releaseRelay_sr : (s.releaseRelay).sr = s.sr := rfl
@[simp] theorem State.releaseRelay_bitcnt : (s.releaseRelay).bitcnt = s.bitcnt := rfl
@[simp] theorem State.releaseRelay_unitcnt : (s.releaseRelay).unitcnt = s.unitcnt := rfl
@[simp] theorem State.releaseRelay_cyccnt : (s.releaseRelay).cyccnt = s.cyccnt := rfl
@[simp] theorem State.releaseRelay_half : (s.releaseRelay).half = s.half := rfl
@[simp] theorem State.releaseRelay_mark : (s.releaseRelay).mark = s.mark := rfl
@[simp] theorem State.releaseRelay_rpt : (s.releaseRelay).rpt = s.rpt := rfl
@[simp] theorem State.releaseRelay_txstate : (s.releaseRelay).txstate = s.txstate := rfl
@[simp] theorem State.releaseRelay_holdcnt : (s.releaseRelay).holdcnt = 0 := rfl
@[simp] theorem State.releaseRelay_serLat : (s.releaseRelay).serLat = s.serLat := rfl
@[simp] theorem State.releaseRelay_rcLat : (s.releaseRelay).rcLat = s.rcLat := rfl
@[simp] theorem State.releaseRelay_sampled : (s.releaseRelay).sampled = s.sampled := rfl
@[simp] theorem State.releaseRelay_trace : (s.releaseRelay).trace = s.trace := rfl
@[simp] theorem State.releaseRelay_elapsed : (s.releaseRelay).elapsed = s.elapsed := rfl
@[simp] theorem State.releaseRelay_resets : (s.releaseRelay).resets = s.resets := rfl
@[simp] theorem State.releaseRelay_world : (s.releaseRelay).world = s.world.toggleAmp := rfl

end Sys2Proof.Machine
end

