-- ==== Sys2Proof/Laws/Ops.lean ====
section
/-! SUPPORT. What the shared operations of Machine/Ops.lean can do, each said once. -/

namespace Sys2Proof.Machine

/-! ### Events and time -/

@[simp] theorem State.emits_nil (s : State) : s.emits [] = s := by simp [State.emits]

@[simp] theorem State.emits_emits (s : State) (es fs : List Event) : (s.emits es).emits fs = s.emits (es ++ fs) := by
  simp [State.emits]

/-- A wait of no time changes nothing. -/
@[simp] theorem World.tick_zero (w : World) (period now : Nat) : w.tick period now 0 = w := by
  have h : ¬ (w.wdt ≤ period ∧ period < w.wdt + 0) := by omega
  rw [World.tick, if_neg h]
  simp

/-- Two stretches of time are one. -/
theorem World.tick_tick (w : World) (period now m n : Nat) :
    (w.tick period now m).tick period (now + m) n = w.tick period now (m + n) := by
  unfold World.tick
  rcases hw : w.wdtTrip with _ | t
  · simp only [Option.none_or, Nat.add_assoc, World.mk.injEq, true_and, and_true]
    by_cases h1 : w.wdt ≤ period ∧ period < w.wdt + m
    · have h3 : w.wdt ≤ period ∧ period < w.wdt + (m + n) := by omega
      simp [h1, h3]
    · by_cases h2 : w.wdt + m ≤ period ∧ period < w.wdt + (m + n)
      · have h3 : w.wdt ≤ period ∧ period < w.wdt + (m + n) := by omega
        have h4 : now + (m + (period - (w.wdt + m))) = now + (period - w.wdt) := by omega
        have h5 : ¬ period < w.wdt + m := by omega
        simp [h2, h3, h4, h5]
      · have h3 : ¬ (w.wdt ≤ period ∧ period < w.wdt + (m + n)) := by omega
        simp [h1, h2, h3]
  · simp [Nat.add_assoc]

@[simp] theorem State.wait_zero (s : State) : s.wait 0 = s := by simp [State.wait]

@[simp] theorem State.wait_wait (s : State) (m n : Nat) : (s.wait m).wait n = s.wait (m + n) := by
  simp [State.wait, World.tick_tick, Nat.add_assoc]

@[simp] theorem State.wait_emits (s : State) (n : Nat) (es : List Event) : (s.wait n).emits es = (s.emits es).wait n := rfl

/-- No time passes the watchdog's period while the counter stays within it. -/
theorem World.tick_wdtTrip_of_le (w : World) (period now n : Nat) (h : w.wdt + n ≤ period) :
    (w.tick period now n).wdtTrip = w.wdtTrip := by
  have h' : ¬ (w.wdt ≤ period ∧ period < w.wdt + n) := by omega
  rw [World.tick, if_neg h']
  simp

@[simp] theorem World.tick_wdt (w : World) (period now n : Nat) : (w.tick period now n).wdt = w.wdt + n := rfl
@[simp] theorem World.tick_rstAt (w : World) (period now n : Nat) : (w.tick period now n).rstAt = w.rstAt := rfl
@[simp] theorem World.tick_ampPin (w : World) (period now n : Nat) : (w.tick period now n).ampPin = w.ampPin := rfl
@[simp] theorem World.tick_srcPin (w : World) (period now n : Nat) : (w.tick period now n).srcPin = w.srcPin := rfl
@[simp] theorem World.tick_ampPower (w : World) (period now n : Nat) : (w.tick period now n).ampPower = w.ampPower := rfl
@[simp] theorem World.tick_serial (w : World) (period now n : Nat) : (w.tick period now n).serial = w.serial := rfl
@[simp] theorem World.tick_decoder (w : World) (period now n : Nat) : (w.tick period now n).decoder = w.decoder := rfl
@[simp] theorem World.tick_stall (w : World) (period now n : Nat) : (w.tick period now n).stall = w.stall := rfl
@[simp] theorem World.tick_hostCall (w : World) (period now n : Nat) : (w.tick period now n).hostCall = w.hostCall := rfl
@[simp] theorem World.tick_pending (w : World) (period now n : Nat) : (w.tick period now n).pending = w.pending := rfl

/-! ### Polarity -/

@[simp] theorem throughPolarity_throughPolarity (p : Polarity) (b : Bool) :
    throughPolarity p (throughPolarity p b) = b := by
  cases p <;> simp [throughPolarity]

/-! ### The world moves on -/

section
variable (s : State)

@[simp] theorem State.advance_cfg : s.advance.cfg = s.cfg := by
  unfold State.advance; split <;> rfl
@[simp] theorem State.advance_ampPrev : s.advance.ampPrev = s.ampPrev := by
  unfold State.advance; split <;> rfl
@[simp] theorem State.advance_srcPrev : s.advance.srcPrev = s.srcPrev := by
  unfold State.advance; split <;> rfl
@[simp] theorem State.advance_offt : s.advance.offt = s.offt := by
  unfold State.advance; split <;> rfl
@[simp] theorem State.advance_ledt : s.advance.ledt = s.ledt := by
  unfold State.advance; split <;> rfl
@[simp] theorem State.advance_irOut : s.advance.irOut = s.irOut := by
  unfold State.advance; split <;> rfl
@[simp] theorem State.advance_relay : s.advance.relay = s.relay := by
  unfold State.advance; split <;> rfl
@[simp] theorem State.advance_led : s.advance.led = s.led := by
  unfold State.advance; split <;> rfl
@[simp] theorem State.advance_phase : s.advance.phase = s.phase := by
  unfold State.advance; split <;> rfl
@[simp] theorem State.advance_ret : s.advance.ret = s.ret := by
  unfold State.advance; split <;> rfl
@[simp] theorem State.advance_sr : s.advance.sr = s.sr := by
  unfold State.advance; split <;> rfl
@[simp] theorem State.advance_bitcnt : s.advance.bitcnt = s.bitcnt := by
  unfold State.advance; split <;> rfl
@[simp] theorem State.advance_unitcnt : s.advance.unitcnt = s.unitcnt := by
  unfold State.advance; split <;> rfl
@[simp] theorem State.advance_cyccnt : s.advance.cyccnt = s.cyccnt := by
  unfold State.advance; split <;> rfl
@[simp] theorem State.advance_half : s.advance.half = s.half := by
  unfold State.advance; split <;> rfl
@[simp] theorem State.advance_mark : s.advance.mark = s.mark := by
  unfold State.advance; split <;> rfl
@[simp] theorem State.advance_rpt : s.advance.rpt = s.rpt := by
  unfold State.advance; split <;> rfl
@[simp] theorem State.advance_txstate : s.advance.txstate = s.txstate := by
  unfold State.advance; split <;> rfl
@[simp] theorem State.advance_holdcnt : s.advance.holdcnt = s.holdcnt := by
  unfold State.advance; split <;> rfl
@[simp] theorem State.advance_serLat : s.advance.serLat = s.serLat := by
  unfold State.advance; split <;> rfl
@[simp] theorem State.advance_rcLat : s.advance.rcLat = s.rcLat := by
  unfold State.advance; split <;> rfl
@[simp] theorem State.advance_sampled : s.advance.sampled = s.sampled := by
  unfold State.advance; split <;> rfl
@[simp] theorem State.advance_trace : s.advance.trace = s.trace := by
  unfold State.advance; split <;> rfl
@[simp] theorem State.advance_elapsed : s.advance.elapsed = s.elapsed := by
  unfold State.advance; split <;> rfl
@[simp] theorem State.advance_resets : s.advance.resets = s.resets := by
  unfold State.advance; split <;> rfl

end

/-- Without a stimulus the world stays as it is. -/
theorem State.advance_of_pending_nil (s : State) (h : s.world.pending = []) : s.advance = s := by
  unfold State.advance; rw [h]

/-- With a stimulus the world takes it. -/
theorem State.advance_of_pending_cons (s : State) (x : Stimulus) (rest : List Stimulus) (h : s.world.pending = x :: rest) :
    s.advance = { s with world := { s.world.absorb s.elapsed x with pending := rest } } := by
  unfold State.advance; rw [h]

/-! ### The start of a step -/

section
variable (s : State)

@[simp] theorem State.startStep_cfg : s.startStep.cfg = s.cfg := by
  unfold State.startStep; split <;> rfl
@[simp] theorem State.startStep_ampPrev : s.startStep.ampPrev = s.ampPrev := by
  unfold State.startStep; split <;> rfl
@[simp] theorem State.startStep_srcPrev : s.startStep.srcPrev = s.srcPrev := by
  unfold State.startStep; split <;> rfl
@[simp] theorem State.startStep_offt : s.startStep.offt = s.offt := by
  unfold State.startStep; split <;> rfl
@[simp] theorem State.startStep_ledt : s.startStep.ledt = s.ledt := by
  unfold State.startStep; split <;> rfl
@[simp] theorem State.startStep_irOut : s.startStep.irOut = s.irOut := by
  unfold State.startStep; split <;> rfl
@[simp] theorem State.startStep_relay : s.startStep.relay = s.relay := by
  unfold State.startStep; split <;> rfl
@[simp] theorem State.startStep_led : s.startStep.led = s.led := by
  unfold State.startStep; split <;> rfl
@[simp] theorem State.startStep_phase : s.startStep.phase = s.phase := by
  unfold State.startStep; split <;> rfl
@[simp] theorem State.startStep_ret : s.startStep.ret = s.ret := by
  unfold State.startStep; split <;> rfl
@[simp] theorem State.startStep_sr : s.startStep.sr = s.sr := by
  unfold State.startStep; split <;> rfl
@[simp] theorem State.startStep_bitcnt : s.startStep.bitcnt = s.bitcnt := by
  unfold State.startStep; split <;> rfl
@[simp] theorem State.startStep_unitcnt : s.startStep.unitcnt = s.unitcnt := by
  unfold State.startStep; split <;> rfl
@[simp] theorem State.startStep_cyccnt : s.startStep.cyccnt = s.cyccnt := by
  unfold State.startStep; split <;> rfl
@[simp] theorem State.startStep_half : s.startStep.half = s.half := by
  unfold State.startStep; split <;> rfl
@[simp] theorem State.startStep_mark : s.startStep.mark = s.mark := by
  unfold State.startStep; split <;> rfl
@[simp] theorem State.startStep_rpt : s.startStep.rpt = s.rpt := by
  unfold State.startStep; split <;> rfl
@[simp] theorem State.startStep_txstate : s.startStep.txstate = s.txstate := by
  unfold State.startStep; split <;> rfl
@[simp] theorem State.startStep_holdcnt : s.startStep.holdcnt = s.holdcnt := by
  unfold State.startStep; split <;> rfl
@[simp] theorem State.startStep_serLat : s.startStep.serLat = s.serLat := by
  unfold State.startStep; split <;> rfl
@[simp] theorem State.startStep_rcLat : s.startStep.rcLat = s.rcLat := by
  unfold State.startStep; split <;> rfl
@[simp] theorem State.startStep_sampled : s.startStep.sampled = s.sampled := by
  unfold State.startStep; split <;> rfl
@[simp] theorem State.startStep_trace : s.startStep.trace = s.trace := by
  unfold State.startStep; split <;> rfl
@[simp] theorem State.startStep_resets : s.startStep.resets = s.resets := by
  unfold State.startStep; split <;> rfl

end

@[simp] theorem State.startStep_ampSense (s : State) : s.startStep.ampSense = s.ampSense := by
  unfold State.startStep; split <;> rfl

@[simp] theorem State.startStep_srcSense (s : State) : s.startStep.srcSense = s.srcSense := by
  unfold State.startStep; split <;> rfl

/-- Where neither the collaborators nor the loop take time, a step starts at once. -/
theorem State.startStep_of_no_time (s : State) (h : s.world.stall = 0) (h' : s.loopTime = 0) : s.startStep = s := by
  unfold State.startStep
  split
  · rfl
  · rw [h, h', State.wait_zero, ← h]

/-! ### Reset -/

section
variable (s : State)

@[simp] theorem State.enterReset_cfg : s.enterReset.cfg = s.cfg := rfl
@[simp] theorem State.enterReset_ampPrev : s.enterReset.ampPrev = Config.freeAmpPrev (s.resets + 1) := rfl
@[simp] theorem State.enterReset_srcPrev : s.enterReset.srcPrev = Config.freeSrcPrev (s.resets + 1) := rfl
@[simp] theorem State.enterReset_offt : s.enterReset.offt = 0 := rfl
@[simp] theorem State.enterReset_ledt : s.enterReset.ledt = 0 := rfl
@[simp] theorem State.enterReset_irOut : s.enterReset.irOut = false := rfl
@[simp] theorem State.enterReset_relay : s.enterReset.relay = false := rfl
@[simp] theorem State.enterReset_led : s.enterReset.led = false := rfl
@[simp] theorem State.enterReset_phase : s.enterReset.phase = .p1 := rfl
@[simp] theorem State.enterReset_ret : s.enterReset.ret = .p3 := rfl
@[simp] theorem State.enterReset_sr : s.enterReset.sr = 0 := rfl
@[simp] theorem State.enterReset_bitcnt : s.enterReset.bitcnt = 0 := rfl
@[simp] theorem State.enterReset_unitcnt : s.enterReset.unitcnt = 0 := rfl
@[simp] theorem State.enterReset_cyccnt : s.enterReset.cyccnt = 0 := rfl
@[simp] theorem State.enterReset_half : s.enterReset.half = false := rfl
@[simp] theorem State.enterReset_mark : s.enterReset.mark = false := rfl
@[simp] theorem State.enterReset_rpt : s.enterReset.rpt = false := rfl
@[simp] theorem State.enterReset_txstate : s.enterReset.txstate = .idle := rfl
@[simp] theorem State.enterReset_holdcnt : s.enterReset.holdcnt = 0 := rfl
@[simp] theorem State.enterReset_serLat : s.enterReset.serLat = Config.freeSerLat (s.resets + 1) := rfl
@[simp] theorem State.enterReset_rcLat : s.enterReset.rcLat = Config.freeRcLat (s.resets + 1) := rfl
@[simp] theorem State.enterReset_sampled : s.enterReset.sampled = false := rfl
@[simp] theorem State.enterReset_trace : s.enterReset.trace = s.trace ++ s.forcedOff := rfl
@[simp] theorem State.enterReset_elapsed : s.enterReset.elapsed = s.elapsed := rfl
@[simp] theorem State.enterReset_resets : s.enterReset.resets = s.resets + 1 := rfl

end

@[simp] theorem State.raise_hang (s : State) : s.raise .hang = s.enterReset := rfl

/-- A reset by either cause is the same event (rule R204). -/
@[simp] theorem State.takeReset_eq (s : State) : s.takeReset = s.enterReset := by
  unfold State.takeReset; split <;> rfl

/-- A step cut short is a reset of some state with the same parameters and the same number of resets behind it. -/
theorem State.cutAt_eq_enterReset (s t : State) (n : Nat) (hc : t.cfg = s.cfg) (hr : t.resets = s.resets) :
    ∃ u : State, s.cutAt t n = u.enterReset ∧ u.cfg = s.cfg ∧ u.resets = s.resets := by
  unfold State.cutAt
  split
  · exact ⟨_, State.takeReset_eq _, rfl, rfl⟩
  · exact ⟨_, State.takeReset_eq _, hc, hr⟩

/-- The end of a step: the state it ran to, or a reset. -/
theorem State.conclude_cases (s t : State) (hc : t.cfg = s.cfg) :
    s.conclude t = t ∨
      (t.resets = s.resets ∧ ∃ u : State, s.conclude t = u.enterReset ∧ u.cfg = s.cfg ∧ u.resets = s.resets) := by
  unfold State.conclude
  by_cases hr : t.resets = s.resets
  · rw [if_neg (by simpa using hr)]
    split
    · split
      · exact .inr ⟨hr, State.cutAt_eq_enterReset s t _ hc hr⟩
      · exact .inl rfl
    · exact .inl rfl
  · exact .inl (by rw [if_pos hr])

/-- A step that saw no reset ran to its end. -/
theorem State.conclude_of_resets_eq (s t : State) (hc : t.cfg = s.cfg) (h : (s.conclude t).resets = t.resets) :
    s.conclude t = t := by
  rcases s.conclude_cases t hc with h' | ⟨hr, u, hu, _, hur⟩
  · exact h'
  · rw [hu, State.enterReset_resets, hur, ← hr] at h
    omega

/-- With no reset on its way, a step runs to its end. -/
theorem State.conclude_of_calm (s t : State) (h : t.world.rstAt = none) (h' : t.world.wdtTrip = none) :
    s.conclude t = t := by
  simp [State.conclude, State.nextReset, h, h']

/-- Under the reset rules a step is its body, or a reset. -/
theorem State.under_cases (s : State) (body : State → State) (hc : (body s.startStep).cfg = s.cfg) :
    s.under body = body s.startStep ∨
      ∃ u : State, s.under body = u.enterReset ∧ u.cfg = s.cfg ∧ s.resets ≤ u.resets := by
  unfold State.under
  split
  · exact .inr ⟨s, State.takeReset_eq s, rfl, Nat.le_refl _⟩
  · rcases s.conclude_cases _ hc with h | ⟨_, u, hu, huc, hur⟩
    · exact .inl h
    · exact .inr ⟨u, hu, huc, by omega⟩

/-! ### Views of traces -/

@[simp] theorem pinLevel_append (es fs : List Event) : pinLevel (es ++ fs) = pinLevel es ++ pinLevel fs := by
  simp [pinLevel]

@[simp] theorem observed_append (es fs : List Event) : observed (es ++ fs) = observed es ++ observed fs := by
  simp [observed]

@[simp] theorem logged_append (es fs : List Event) : logged (es ++ fs) = logged es ++ logged fs := by
  induction es with
  | nil => rfl
  | cons e es ih => cases e <;> simp [logged, ih]

/-- The events a state has beyond the one it grew from. -/
@[simp] theorem State.newEvents_of_append (s t : State) (es : List Event) (h : t.trace = s.trace ++ es) :
    s.newEvents t = es := by
  simp [State.newEvents, h]

end Sys2Proof.Machine
end

