-- ==== Sys2Proof/Laws/Transmit.lean ====
section
/-! SUPPORT. What the carrier generator and the transmitter can do, said once: each plays a unit-level trace. -/

namespace Sys2Proof

/-- The frame shape of rule R6, field by field. -/
theorem Config.frameShape_iff (c : Config) : c.frameShape = true ↔
    c.leadMark = 16 ∧ c.leadSpace = 8 ∧ c.rptSpace = 4 ∧ c.bitMark = 1 ∧ c.bit0Space = 1 ∧ c.bit1Space = 3 ∧
      c.endMark = 1 ∧ c.frameBits = 32 ∧ c.cyclesPerUnit ≠ 0 := by
  simp [Config.frameShape, and_assoc]

/-- A frame shape has a shorter space for 0 than for 1. -/
theorem Config.bit0Space_le_of_frameShape (c : Config) (h : c.frameShape = true) : c.bit0Space ≤ c.bit1Space := by
  obtain ⟨-, -, -, -, h0, h1, -⟩ := c.frameShape_iff.mp h
  rw [h0, h1]
  decide

end Sys2Proof

namespace Sys2Proof.Machine

@[simp] theorem State.played_cfg (s : State) (m : Bool) (us : List Sym) : (s.played m us).cfg = s.cfg := rfl

/-- Playing a trace is emitting its events, letting its time pass and resting the generator. -/
theorem State.played_eq (s : State) (m : Bool) (us : List Sym) :
    s.played m us =
      ((s.emits (us.flatMap (unitEvents s.cfg))).wait (us.length * s.cfg.hpPerUnit)).restGenerator m := rfl

/-- What the generator does twice, it does once. -/
theorem State.restGenerator_wait_emits (s : State) (m m' : Bool) (n : Nat) (es : List Event) :
    (((s.restGenerator m).emits es).wait n).restGenerator m' = ((s.emits es).wait n).restGenerator m' := rfl

/-- Two traces played one after the other are one. -/
theorem State.played_played (s : State) (m m' : Bool) (us vs : List Sym) :
    (s.played m us).played m' vs = s.played m' (us ++ vs) := by
  rw [State.played_eq, State.played_cfg, State.played_eq, State.restGenerator_wait_emits, State.wait_emits,
    State.emits_emits, State.wait_wait, State.played_eq, List.flatMap_append, List.length_append, Nat.add_mul]

/-- The events of one mark are those of its cycles. -/
theorem burst1Events_eq (c : Config) (n : Nat) :
    burst1Events c n = (List.replicate n Sym.mark).flatMap (unitEvents c) := by
  induction n with
  | zero => simp [burst1Events]
  | succ n ih =>
    rw [List.replicate_succ, List.flatMap_cons, ← ih, burst1Events, burst1Events, Nat.succ_mul, Nat.add_comm,
      ← List.replicate_append_replicate, List.flatten_append]
    rfl

theorem burst0Events_eq (c : Config) (n : Nat) :
    burst0Events c n = (List.replicate n Sym.space).flatMap (unitEvents c) := by
  induction n with
  | zero => simp [burst0Events]
  | succ n ih =>
    rw [List.replicate_succ, List.flatMap_cons, ← ih]
    simp [burst0Events, unitEvents, List.replicate_succ]

/-- `BURST1(n)` plays `M^n` (rule R100). -/
theorem State.burst1_eq (s : State) (n : Units) : s.burst1 n = s.played true (List.replicate n.toNat .mark) := by
  rw [State.burst1, State.afterBurst, State.played_eq, burst1Events_eq, List.length_replicate]

/-- `BURST0(n)` plays `S^n` (rule R101). -/
theorem State.burst0_eq (s : State) (n : Units) : s.burst0 n = s.played false (List.replicate n.toNat .space) := by
  rw [State.burst0, State.afterBurst, State.played_eq, burst0Events_eq, List.length_replicate]

/-- A bit slot plays its units (rule R113). -/
theorem State.sendBit_eq (s : State) (b : Bool) (h : s.cfg.bit0Space ≤ s.cfg.bit1Space) :
    s.sendBit b = s.played false (slotUnits s.cfg b) := by
  have hsub : (s.cfg.bit1Space - s.cfg.bit0Space).toNat = s.cfg.bit1Space.toNat - s.cfg.bit0Space.toNat :=
    BitVec.toNat_sub_of_le h
  have hle : s.cfg.bit0Space.toNat ≤ s.cfg.bit1Space.toNat := h
  cases b with
  | false => simp [State.sendBit, State.burst1_eq, State.burst0_eq, State.played_played, slotUnits]
  | true =>
    simp only [State.sendBit, State.burst1_eq, State.burst0_eq, State.played_played, slotUnits,
      if_true, hsub, List.append_assoc, List.replicate_append_replicate]
    rw [Nat.add_sub_cancel' hle]

/-- The bit slots play their units one after the other. -/
theorem State.foldl_sendBit (bits : List Bool) (s : State) (us : List Sym) (h : s.cfg.bit0Space ≤ s.cfg.bit1Space) :
    bits.foldl State.sendBit (s.played false us) = s.played false (us ++ bits.flatMap (slotUnits s.cfg)) := by
  induction bits generalizing us with
  | nil => simp
  | cons b bits ih =>
    rw [List.foldl_cons, State.sendBit_eq (s.played false us) b h, State.played_played, ih, State.played_cfg,
      List.append_assoc, List.flatMap_cons]

/-- A frame loaded, played and over has been sent. -/
theorem State.loadFrame_played_restTransmitter (s : State) (f g : Frame) (n : BitCount) (r : Bool) (us : List Sym) :
    (((s.loadFrame f n r).played true us).restTransmitter g) = s.sent g r us := rfl

/-- `TRANSMIT` sends the command frame; the shift register has shifted it out (rules R111, R120). -/
theorem State.transmit_eq (s : State) (a k : Byte) (h : s.cfg.bit0Space ≤ s.cfg.bit1Space) :
    s.transmit a k =
      s.sent (necFrame a k <<< s.cfg.frameBits.toNat) false (commandUnits s.cfg (necFrame a k)) := by
  rw [← State.loadFrame_played_restTransmitter s (necFrame a k) _ s.cfg.frameBits]
  simp only [State.transmit, State.burst1_eq, State.burst0_eq, State.played_played]
  rw [State.foldl_sendBit _ (s.loadFrame (necFrame a k) s.cfg.frameBits false) _ h, State.played_played, commandUnits,
    State.loadFrame_cfg]

/-- `TRANSMIT_REPEAT` sends the repeat frame (rule R116). -/
theorem State.transmitRepeat_eq (s : State) : s.transmitRepeat = s.sent s.sr true (repeatUnits s.cfg) := by
  rw [← State.loadFrame_played_restTransmitter s s.sr _ 0]
  simp only [State.transmitRepeat, State.burst1_eq, State.burst0_eq, State.played_played, repeatUnits]

/-- A bit slot plays some units, whatever the configuration. -/
theorem State.sendBit_played (s : State) (m b : Bool) (us : List Sym) :
    ∃ vs, (s.played m us).sendBit b = s.played false vs := by
  cases b <;> simp only [State.sendBit, State.burst1_eq, State.burst0_eq, State.played_played, if_true,
    Bool.false_eq_true, if_false] <;> exact ⟨_, rfl⟩

/-- So do several. -/
theorem State.foldl_sendBit_played (bits : List Bool) (s : State) (us : List Sym) :
    ∃ vs, bits.foldl State.sendBit (s.played false us) = s.played false vs := by
  induction bits generalizing us with
  | nil => exact ⟨us, rfl⟩
  | cons b bits ih =>
    obtain ⟨vs, hv⟩ := s.sendBit_played false b us
    rw [List.foldl_cons, hv]
    exact ih vs

/-- `TRANSMIT` sends some units and nothing else, whatever the configuration; `State.transmit_eq` says which under the frame
shape of the spec. -/
theorem State.transmit_sends (s : State) (a k : Byte) :
    ∃ us, s.transmit a k = s.sent (necFrame a k <<< s.cfg.frameBits.toNat) false us := by
  simp only [State.transmit, State.burst1_eq, State.burst0_eq, State.played_played]
  obtain ⟨vs, hv⟩ := State.foldl_sendBit_played (bitsMsbFirst (necFrame a k) s.cfg.frameBits.toNat)
    (s.loadFrame (necFrame a k) s.cfg.frameBits false)
    (List.replicate s.cfg.leadMark.toNat .mark ++ List.replicate s.cfg.leadSpace.toNat .space)
  rw [hv, State.played_played]
  exact ⟨_, State.loadFrame_played_restTransmitter s (necFrame a k) _ s.cfg.frameBits false _⟩

/-- The events of units are on the infrared pin only. -/
theorem mem_flatMap_unitEvents {c : Config} {us : List Sym} {e : Event} (h : e ∈ us.flatMap (unitEvents c)) :
    ∃ b n, e = .ir b n := by
  obtain ⟨u, -, hu⟩ := List.mem_flatMap.mp h
  cases u with
  | mark =>
    obtain ⟨l, hl, he⟩ := List.mem_flatten.mp hu
    rw [List.eq_of_mem_replicate hl] at he
    rcases List.mem_cons.mp he with he | he
    · exact ⟨_, _, he⟩
    · exact ⟨_, _, List.mem_singleton.mp he⟩
  | space => exact ⟨_, _, List.mem_singleton.mp hu⟩

end Sys2Proof.Machine
end

