-- ==== Sys2Proof/Laws/Steps.lean ====
section
/-! SUPPORT. What the operations above the transmitter and the seven steps of the loop can do: each one's effect as one
equation, and what all of them share. -/

namespace Sys2Proof.Machine

/-! ### The relay and the infrared commands -/

/-- A pulse that runs whole (rule R142). -/
theorem State.relayPulse_eq (s : State) : s.relayPulse = s.pulsed := rfl

/-- `AMP_ON`, by what the amplifier reads (rules R140, R145, R201). -/
theorem State.ampOn_eq (s : State) (pulse : State → State) :
    s.ampOn pulse =
      if s.ampSense then (s.sampleAmp.emits [.log .alreadyOn]).setOfft 0 else (pulse s.sampleAmp).setOfft 0 := by
  unfold State.ampOn
  cases h : s.ampSense <;> simp [h, State.raise]

/-- `AMP_OFF`, by what the amplifier reads (rules R141, R145, R201). -/
theorem State.ampOff_eq (s : State) (pulse : State → State) :
    s.ampOff pulse =
      if s.ampSense then (pulse s.sampleAmp).setOfft 0 else (s.sampleAmp.emits [.log .alreadyOff]).setOfft 0 := by
  unfold State.ampOff
  cases h : s.ampSense <;> simp [h, State.raise]

/-! ### What every operation shares -/

/-- `t` comes from `s` without a reset: the same parameters and count of resets, a trace that has only grown, no less time,
the reset input and the stimuli to come as they were. -/
structure Grows (s t : State) : Prop where
  cfg : t.cfg = s.cfg
  resets : t.resets = s.resets
  trace : ∃ es, t.trace = s.trace ++ es
  elapsed : s.elapsed ≤ t.elapsed
  rstAt : t.world.rstAt = s.world.rstAt
  pending : t.world.pending = s.world.pending

namespace Grows

theorem refl (s : State) : Grows s s := ⟨rfl, rfl, ⟨[], by simp⟩, Nat.le_refl _, rfl, rfl⟩

theorem trans {s t u : State} (h : Grows s t) (h' : Grows t u) : Grows s u := by
  obtain ⟨es, he⟩ := h.trace
  obtain ⟨fs, hf⟩ := h'.trace
  exact ⟨h'.cfg.trans h.cfg, h'.resets.trans h.resets, ⟨es ++ fs, by rw [hf, he, List.append_assoc]⟩,
    h.elapsed.trans h'.elapsed, h'.rstAt.trans h.rstAt, h'.pending.trans h.pending⟩

variable (s : State)

theorem emits (es : List Event) : Grows s (s.emits es) := ⟨rfl, rfl, ⟨es, rfl⟩, Nat.le_refl _, rfl, rfl⟩
theorem wait (n : Nat) : Grows s (s.wait n) := ⟨rfl, rfl, ⟨[], by simp⟩, by simp, rfl, rfl⟩
theorem nextPhase : Grows s s.nextPhase := ⟨rfl, rfl, ⟨[], by simp⟩, Nat.le_refl _, rfl, rfl⟩
theorem setPhase (p : Phase) : Grows s (s.setPhase p) := ⟨rfl, rfl, ⟨[], by simp⟩, Nat.le_refl _, rfl, rfl⟩
theorem setAmpPrev (v : Bool) : Grows s (s.setAmpPrev v) := ⟨rfl, rfl, ⟨[], by simp⟩, Nat.le_refl _, rfl, rfl⟩
theorem setSrcPrev (v : Bool) : Grows s (s.setSrcPrev v) := ⟨rfl, rfl, ⟨[], by simp⟩, Nat.le_refl _, rfl, rfl⟩
theorem setOfft (v : Timer) : Grows s (s.setOfft v) := ⟨rfl, rfl, ⟨[], by simp⟩, Nat.le_refl _, rfl, rfl⟩
theorem setLedt (v : Timer) : Grows s (s.setLedt v) := ⟨rfl, rfl, ⟨[], by simp⟩, Nat.le_refl _, rfl, rfl⟩
theorem writeLed (b : Bool) : Grows s (s.writeLed b) := ⟨rfl, rfl, ⟨_, rfl⟩, Nat.le_refl _, rfl, rfl⟩
theorem kick : Grows s s.kick := ⟨rfl, rfl, ⟨_, rfl⟩, Nat.le_refl _, rfl, rfl⟩
theorem pollSerial : Grows s s.pollSerial := ⟨rfl, rfl, ⟨[], by simp⟩, Nat.le_refl _, rfl, rfl⟩
theorem takeRecord (r : RcRecord) : Grows s (s.takeRecord r) := ⟨rfl, rfl, ⟨[], by simp⟩, Nat.le_refl _, rfl, rfl⟩
theorem rearm : Grows s s.rearm := ⟨rfl, rfl, ⟨_, rfl⟩, Nat.le_refl _, rfl, rfl⟩
theorem sampleAmp : Grows s s.sampleAmp := ⟨rfl, rfl, ⟨[], by simp⟩, Nat.le_refl _, rfl, rfl⟩
theorem sampleSrc : Grows s s.sampleSrc := ⟨rfl, rfl, ⟨[], by simp⟩, Nat.le_refl _, rfl, rfl⟩
theorem takeCall : Grows s s.takeCall := ⟨rfl, rfl, ⟨[], by simp [State.takeCall]⟩, Nat.le_refl _, rfl, rfl⟩
theorem armLed : Grows s s.armLed := ⟨rfl, rfl, ⟨_, rfl⟩, Nat.le_refl _, rfl, rfl⟩
theorem played (m : Bool) (us : List Sym) : Grows s (s.played m us) := ⟨rfl, rfl, ⟨_, rfl⟩, by simp [State.played], rfl, rfl⟩
theorem sent (f : Frame) (r : Bool) (us : List Sym) : Grows s (s.sent f r us) :=
  ⟨rfl, rfl, ⟨_, rfl⟩, by simp [State.sent, State.played], rfl, rfl⟩
theorem pulsed : Grows s s.pulsed := ⟨rfl, rfl, ⟨_, rfl⟩, by simp [State.pulsed], rfl, rfl⟩
theorem loadFrame (f : Frame) (n : BitCount) (r : Bool) : Grows s (s.loadFrame f n r) :=
  ⟨rfl, rfl, ⟨[], by simp⟩, Nat.le_refl _, rfl, rfl⟩
theorem restTransmitter (f : Frame) : Grows s (s.restTransmitter f) := ⟨rfl, rfl, ⟨[], by simp⟩, Nat.le_refl _, rfl, rfl⟩

theorem burst1 (n : Units) : Grows s (s.burst1 n) := by rw [State.burst1_eq]; exact .played s _ _
theorem burst0 (n : Units) : Grows s (s.burst0 n) := by rw [State.burst0_eq]; exact .played s _ _

theorem sendBit (b : Bool) : Grows s (s.sendBit b) := by
  cases b
  · exact (burst1 s _).trans (burst0 _ _)
  · exact ((burst1 s _).trans (burst0 _ _)).trans (burst0 _ _)

theorem foldl_sendBit (bits : List Bool) : Grows s (bits.foldl State.sendBit s) := by
  induction bits generalizing s with
  | nil => exact .refl s
  | cons b bits ih => exact (sendBit s b).trans (ih _)

/-- A frame only grows the trace, whatever the frame shape. -/
theorem transmit (a k : Byte) : Grows s (s.transmit a k) :=
  ((((loadFrame s _ _ _).trans (burst1 _ _)).trans (burst0 _ _)).trans (foldl_sendBit _ _)).trans
    ((burst1 _ _).trans (restTransmitter _ _))

theorem transmitRepeat : Grows s s.transmitRepeat := by rw [State.transmitRepeat_eq]; exact .sent s _ _ _

variable {pulse : State → State} (hp : ∀ u, Grows u (pulse u))
include hp

theorem ampOn : Grows s (s.ampOn pulse) := by
  rw [State.ampOn_eq]
  split
  · exact ((sampleAmp s).trans (emits _ _)).trans (setOfft _ _)
  · exact ((sampleAmp s).trans (hp _)).trans (setOfft _ _)

theorem ampOff : Grows s (s.ampOff pulse) := by
  rw [State.ampOff_eq]
  split
  · exact ((sampleAmp s).trans (hp _)).trans (setOfft _ _)
  · exact ((sampleAmp s).trans (emits _ _)).trans (setOfft _ _)

end Grows

/-- An engine whose services only grow the trace. -/
structure Engine.Good (e : Engine) : Prop where
  pulse : ∀ s, Grows s (e.pulse s)
  send : ∀ s a k, Grows s (e.send s a k)

/-- The engine that runs its services whole is one. -/
theorem Engine.whole_good : Engine.whole.Good := ⟨Grows.pulsed, Grows.transmit⟩

/-- Starting an operation is one too. -/
theorem Engine.clocked_good : Engine.clocked.Good :=
  ⟨fun _ => ⟨rfl, rfl, ⟨_, rfl⟩, Nat.le_refl _, rfl, rfl⟩,
    fun s _ _ => ⟨rfl, rfl, ⟨[], (List.append_nil s.trace).symm⟩, Nat.le_refl _, rfl, rfl⟩⟩

namespace Grows

variable (s : State) {e : Engine} (he : e.Good)

theorem step2 : Grows s s.step2 := by
  unfold State.step2
  dsimp only
  split
  · exact ((sampleAmp s).trans (emits _ _)).trans (setAmpPrev _ _)
  · exact sampleAmp s

theorem step6 : Grows s s.step6 := by
  unfold State.step6
  split
  · dsimp only
    split
    · exact (setLedt s _).trans (writeLed _ _)
    · exact setLedt s _
  · exact .refl s

include he

theorem step3 : Grows s (s.step3 e) := by
  unfold State.step3
  refine trans (sampleSrc s) (trans ?_ (setSrcPrev _ _))
  split
  · exact ampOn _ he.pulse
  · split
    · exact setOfft _ _
    · exact .refl _

theorem step4 : Grows s (s.step4 e) := by
  unfold State.step4
  split
  · split
    · exact (ampOff s he.pulse).trans (setOfft _ _)
    · exact setOfft _ _
  · exact .refl s

theorem dispatchSerial (b : Option Byte) : Grows s (s.dispatchSerial e b) := by
  unfold State.dispatchSerial
  repeat' split
  · exact ampOn s he.pulse
  · exact ampOff s he.pulse
  · exact setOfft _ _
  · exact he.send _ _ _
  · exact he.send _ _ _
  · exact he.send _ _ _
  · exact .refl s

theorem dispatchRecord (r : RcRecord) : Grows s (s.dispatchRecord e r) := by
  unfold State.dispatchRecord
  dsimp only
  repeat' split
  · exact emits _ _
  · exact (armLed s).trans (he.send _ _ _)
  · exact (armLed s).trans (he.send _ _ _)
  · exact (armLed s).trans (he.send _ _ _)
  · exact (armLed s).trans (emits _ _)
  · exact emits _ _

theorem step5 : Grows s (s.step5 e) := (pollSerial s).trans (dispatchSerial _ he _)

theorem step7 : Grows s (s.step7 e) := by
  unfold State.step7
  split
  · exact .refl s
  · exact ((takeRecord s _).trans (rearm _)).trans (dispatchRecord _ he _)

/-- Every step of the loop only grows the trace. -/
theorem phaseBody : Grows s (s.phaseBody e) := by
  unfold State.phaseBody
  split
  · exact (kick s).trans (nextPhase _)
  · exact (step2 s).trans (nextPhase _)
  · exact (step3 s he).trans (nextPhase _)
  · exact (step4 s he).trans (nextPhase _)
  · exact (step5 s he).trans (nextPhase _)
  · exact (step6 s).trans (nextPhase _)
  · exact (step7 s he).trans (nextPhase _)
  · exact .refl s

end Grows

/-! ### `exec` and `step` -/

/-- Every instruction answers a next state (file 93 of the spec: no operation can fail). -/
theorem exec_next (i : Instr) (s : State) : ∃ t, exec i s = .next t := by
  cases i <;> exact ⟨_, rfl⟩

/-- What a state that a step came to can be: a reset that was due, or the step's body, concluded; the world has moved on in
both. -/
theorem step_cases {s t : State} (h : step s = .next t) :
    s.resetDue = true ∧ t = s.enterReset.advance ∨
      s.resetDue = false ∧ ∃ u, s.startStep.stepBody = .next u ∧ t = (s.conclude u).advance := by
  unfold step at h
  cases hd : s.resetDue with
  | true =>
    rw [hd] at h
    simp only [if_true, State.takeReset_eq, Host.Outcome.next.injEq] at h
    exact .inl ⟨rfl, h.symm⟩
  | false =>
    rw [hd] at h
    simp only [Bool.false_eq_true, if_false] at h
    split at h
    · exact .inr ⟨rfl, _, ‹_›, (Host.Outcome.next.inj h).symm⟩
    · cases h
    · cases h

/-- What the body of a step can be: a decoded instruction, run and retired; or, where no wire is read, the step of the loop or
a tick of the operation in progress. -/
theorem State.stepBody_cases {s t : State} (h : s.stepBody = .next t) :
    (∃ w i u, s.fetch = some w ∧ decode s.cfg w = .ok i ∧ exec i s.issue = .next u ∧ t = u.retire s.phase) ∨
      s.fetch = none ∧ t = (if s.phase = .busy then s.clockTick else s.phaseBody Engine.whole) := by
  unfold State.stepBody at h
  split at h
  · exact .inr ⟨‹_›, (Host.Outcome.next.inj h).symm⟩
  · split at h
    · cases h
    · split at h
      · exact .inl ⟨_, _, _, ‹_›, ‹_›, ‹_›, (Host.Outcome.next.inj h).symm⟩
      · cases h
      · cases h

/-- Where the wire decodes, the step is its instruction. -/
theorem step_of_decode (s t : State) (w : Wire) (i : Instr) (hd : s.resetDue = false)
    (hf : s.startStep.fetch = some w) (hi : decode s.cfg w = .ok i) (he : exec i s.startStep.issue = .next t) :
    step s = .next (s.conclude (t.retire s.phase)).advance := by
  simp only [step, hd, State.stepBody, hf, State.startStep_cfg, hi, he, State.startStep_phase, Bool.false_eq_true,
    if_false]

/-- Where no wire is read, the step is the step of the loop. -/
theorem step_of_no_wire (s : State) (hd : s.resetDue = false) (hf : s.startStep.fetch = none) (hb : s.phase ≠ .busy) :
    step s = .next (s.conclude (s.startStep.phaseBody Engine.whole)).advance := by
  simp only [step, hd, State.stepBody, hf, State.startStep_phase, if_neg hb, Bool.false_eq_true, if_false]

end Sys2Proof.Machine
end

