-- ==== Sys2Proof/Laws/Calm.lean ====
section
/-! SUPPORT. Steps that no reset disturbs: what time may pass before the watchdog matters, and what a step then is. -/

namespace Sys2Proof.Machine

theorem World.calm_iff (w : World) : w.calm = true ↔ w.rstAt = none ∧ w.wdtTrip = none := by
  simp [World.calm]

/-- No reset is due in a calm world. -/
theorem State.resetDue_of_calm {s : State} (h : s.world.calm = true) : s.resetDue = false := by
  obtain ⟨h1, h2⟩ := (World.calm_iff _).mp h
  simp [State.resetDue, State.nextReset, h1, h2]

/-- A calm world stays calm while the watchdog's period is not passed. -/
theorem State.wait_calm {s : State} {n : Nat} (h : s.world.calm = true) (hs : s.slack n) :
    (s.wait n).world.calm = true := by
  obtain ⟨h1, h2⟩ := (World.calm_iff _).mp h
  rw [World.calm_iff, State.wait_world]
  exact ⟨h1, by rw [World.tick_wdtTrip_of_le _ _ _ _ hs, h2]⟩

/-- The start of a step that is not disturbed leaves a calm world, with the body's time still to spare. -/
theorem State.startStep_calm {s : State} {n : Nat} (h : s.undisturbed n) :
    s.startStep.world.calm = true ∧ s.startStep.slack n := by
  obtain ⟨hc, hs⟩ := h
  unfold State.slack at hs
  unfold State.startStep
  split
  · exact ⟨hc, show s.world.wdt + n ≤ s.cfg.wdtPeriod by omega⟩
  · refine ⟨State.wait_calm (s := { s with world := { s.world with stall := 0 } }) hc ?_, ?_⟩
    · show s.world.wdt + (s.world.stall + s.loopTime) ≤ s.cfg.wdtPeriod
      omega
    · show s.world.wdt + (s.world.stall + s.loopTime) + n ≤ s.cfg.wdtPeriod
      omega

/-- A step of the loop that is not disturbed runs to its end. -/
theorem step_of_undisturbed {s : State} {n : Nat} (h : s.undisturbed n) (hf : s.startStep.fetch = none)
    (hb : s.phase ≠ .busy) (hc : (s.startStep.phaseBody Engine.whole).world.calm = true) :
    step s = .next (s.startStep.phaseBody Engine.whole).advance := by
  obtain ⟨h1, h2⟩ := (World.calm_iff _).mp hc
  rw [step_of_no_wire s (State.resetDue_of_calm h.1) hf hb, State.conclude_of_calm s _ h1 h2]

/-- The wire that a step reads does not depend on the time that passed before it. -/
@[simp] theorem State.startStep_fetch (s : State) : s.startStep.fetch = s.fetch := by
  unfold State.startStep
  split <;> rfl

/-- In a calm world a step under the reset rules is its body, if the world is calm after it. -/
theorem State.under_of_calm {s : State} {body : State → State} (h : s.world.calm = true)
    (hc : (body s.startStep).world.calm = true) : s.under body = body s.startStep := by
  obtain ⟨h1, h2⟩ := (World.calm_iff _).mp hc
  unfold State.under
  rw [State.resetDue_of_calm h, if_neg Bool.false_ne_true, State.conclude_of_calm s _ h1 h2]

/-- A pass of the loop keeps the parameters and never loses a reset. -/
theorem State.runPhases_cfg (n : Nat) (s : State) :
    (State.runPhases n s).cfg = s.cfg ∧ s.resets ≤ (State.runPhases n s).resets := by
  have one : ∀ u : State, (u.under (fun b => b.phaseBody Engine.whole)).cfg = u.cfg ∧
      u.resets ≤ (u.under (fun b => b.phaseBody Engine.whole)).resets := by
    intro u
    have hg := Grows.phaseBody u.startStep Engine.whole_good
    rcases u.under_cases (fun b => b.phaseBody Engine.whole) (hg.cfg.trans u.startStep_cfg) with h | ⟨v, h, hc, hr⟩
    · rw [h]
      exact ⟨hg.cfg.trans u.startStep_cfg, by rw [hg.resets, State.startStep_resets]⟩
    · rw [h]
      exact ⟨hc, by simp only [State.enterReset_resets]; omega⟩
  induction n using Nat.strongRecOn generalizing s with
  | ind n ih =>
    match n with
    | 0 => exact ⟨rfl, Nat.le_refl _⟩
    | 1 => exact one s
    | n + 2 =>
      unfold State.runPhases
      dsimp only
      split
      · obtain ⟨h1, h2⟩ := one s
        obtain ⟨h3, h4⟩ := ih (n + 1) (by omega) (s.under (fun b => b.phaseBody Engine.whole)).advance
        rw [State.advance_cfg] at h3
        rw [State.advance_resets] at h4
        exact ⟨h3.trans h1, h2.trans h4⟩
      · exact one s

/-! ### The watchdog's budget -/

/-- The first window of some times. -/
theorem sum_take_of_windowsFit {n used limit x : Nat} {xs : List Nat} (h : windowsFit n used limit (x :: xs) = true) :
    used + ((x :: xs).take n).sum ≤ limit := by
  rw [windowsFit, Bool.and_eq_true, decide_eq_true_iff] at h
  exact h.1

/-- What fits, fits once its first time is over. -/
theorem windowsFit_tail {n used limit x : Nat} {xs : List Nat} (h : windowsFit n used limit (x :: xs) = true) :
    windowsFit n used limit xs = true := by
  rw [windowsFit, Bool.and_eq_true] at h
  exact h.2

/-- Collaborators that keep to rule R242 leave room for the longest blocking time and the loop's own time. -/
theorem World.worstBlocking_le_of_fits {w : World} {c : Config} (h : w.fits c = true) :
    c.worstBlocking + c.iterPeriod ≤ c.wdtPeriod := by
  have := sum_take_of_windowsFit (x := w.stall) (xs := w.pending.map Stimulus.stall) h
  omega

/-- After a reset no reset is on its way, nor a call, if the world brings none. -/
theorem State.afterReset_unforced (c : Config) (n : Nat) (w : World) (es : List Event) (now : Nat)
    (h : w.hostCall = none) (h' : w.pending.all Stimulus.unforced = true) :
    (State.afterReset c n w es now).world.unforced = true := by
  rw [World.unforced, Bool.and_eq_true, Bool.and_eq_true]
  exact ⟨⟨rfl, by rw [show (State.afterReset c n w es now).world.hostCall = none from h]; rfl⟩, h'⟩

/-! ### The clocked machine -/

/-- Some ticks, then some more. -/
theorem State.clockRun_add (m n : Nat) (s : State) : s.clockRun (m + n) = (s.clockRun m).clockRun n := by
  induction m generalizing s with
  | zero => rw [Nat.zero_add]; rfl
  | succ m ih => rw [Nat.succ_add]; exact ih s.clockStep

/-- While an operation is in progress in a calm world without stimuli, a clocked step is a tick of it. -/
theorem State.clockStep_of_busy {s : State} (hb : s.phase = .busy) (hc : s.world.calm = true)
    (hc' : s.clockTick.world.calm = true) (hp : s.clockTick.world.pending = []) : s.clockStep = s.clockTick := by
  have hs : s.startStep = s := by rw [State.startStep, if_pos hb]
  have hbody : State.clockBody s = s.clockTick := by rw [State.clockBody, if_pos hb]
  have hu : s.under State.clockBody = s.clockTick := by
    rw [State.under_of_calm hc (by rw [hs, hbody]; exact hc'), hs, hbody]
  rw [State.clockStep, hu, State.advance_of_pending_nil _ hp]

end Sys2Proof.Machine
end

