-- ==== Sys2Proof/Laws/Decode.lean ====
section
/-! SUPPORT. What the decoder can answer for each format, each said once. -/

namespace Sys2Proof

/-- A serial byte is one of the twelve commands, or ignored (rules R72, R81). -/
theorem decodeSerial_cases (b : Byte) :
    b ∈ serialCommandBytes ∧ serialTable.lookup b = some (decodeSerial (some b)) ∨
      b ∉ serialCommandBytes ∧ decodeSerial (some b) = .serIgnored (some b) := by
  revert b
  decide +kernel

/-- The record dispatch, row by row (rule R74). -/
theorem decodeRecord_cases (c : Config) (r : RcRecord) :
    r.startbits ≠ c.startBitsValid ∧ decodeRecord c r = .rcMalformed r.startbits r.addr r.cmd r.toggle ∨
      r.startbits = c.startBitsValid ∧ r.addr ≠ c.remoteAddr ∧ decodeRecord c r = .rcOtherAddr r.addr r.cmd r.toggle ∨
      r.startbits = c.startBitsValid ∧ r.addr = c.remoteAddr ∧
        (r.cmd = c.rcVolUp ∧ decodeRecord c r = .rcVolumeUp r.toggle ∨
          r.cmd ≠ c.rcVolUp ∧ r.cmd = c.rcVolDown ∧ decodeRecord c r = .rcVolumeDown r.toggle ∨
          r.cmd ≠ c.rcVolUp ∧ r.cmd ≠ c.rcVolDown ∧ r.cmd = c.rcMute ∧ decodeRecord c r = .rcMute r.toggle ∨
          c.unmapped r.cmd = true ∧ decodeRecord c r = .rcUnmapped r.cmd r.toggle) := by
  unfold decodeRecord Config.unmapped
  split
  · exact .inl ⟨‹_›, rfl⟩
  · split
    · exact .inr (.inl ⟨not_not.mp ‹_›, ‹_›, rfl⟩)
    · refine .inr (.inr ⟨not_not.mp ‹_›, not_not.mp ‹_›, ?_⟩)
      split
      · exact .inl ⟨‹_›, rfl⟩
      · split
        · exact .inr (.inl ⟨‹_›, ‹_›, rfl⟩)
        · split
          · exact .inr (.inr (.inl ⟨‹_›, ‹_›, ‹_›, rfl⟩))
          · refine .inr (.inr (.inr ⟨?_, rfl⟩))
            simp_all

/-- A 32-bit value is `TRANSMIT` of its data bytes, or rejected by name (rules R75, R83). -/
theorem decodeFrame_cases (f : Frame) :
    isNecFrame f = true ∧ decodeFrame f = .ok (.transmit (frameA f) (frameC f)) ∨
      isNecFrame f = false ∧ decodeFrame f = .error (.notNecFrame f) := by
  unfold decodeFrame
  cases isNecFrame f <;> simp

/-- Nothing but a 32-bit value is ever rejected (rules R81, R82). -/
theorem decode_error (c : Config) (w : Wire) (e : DecodeError) (h : decode c w = .error e) :
    ∃ f, w = .nec32 f ∧ isNecFrame f = false ∧ e = .notNecFrame f := by
  match w, h with
  | .nec32 f, h =>
    rcases decodeFrame_cases f with ⟨_, hf⟩ | ⟨hn, hf⟩
    · exact absurd (hf.symm.trans h) (by simp)
    · exact ⟨f, rfl, hn, (Except.error.inj (hf.symm.trans h)).symm⟩

end Sys2Proof
end

