-- ==== Sys2Proof/Laws/PerInstr.lean ====
section
/-! SUPPORT. Statements about every instruction as syntax, one lemma for each constructor. -/

namespace Sys2Proof.Laws.FormatKept

/-- The encoder writes an instruction in the format that selects it (rule R70), which its row of the opcode table names, or
else the row names the format that an operation of class `INTERNAL` emits. -/
def Statement (i : Instr) : Prop :=
  ∀ c : Config, (encode c i).format = i.format ∧
    (i.tableFormat = i.format ∨ i.format = .internal ∧ i.tableFormat = .necrpt)

theorem serAmpOnLowerN : Statement .serAmpOnLowerN := fun _ => ⟨rfl, .inl rfl⟩
theorem serAmpOnUpperN : Statement .serAmpOnUpperN := fun _ => ⟨rfl, .inl rfl⟩
theorem serAmpOnDigit1 : Statement .serAmpOnDigit1 := fun _ => ⟨rfl, .inl rfl⟩
theorem serAmpOffLowerF : Statement .serAmpOffLowerF := fun _ => ⟨rfl, .inl rfl⟩
theorem serAmpOffUpperF : Statement .serAmpOffUpperF := fun _ => ⟨rfl, .inl rfl⟩
theorem serAmpOffDigit0 : Statement .serAmpOffDigit0 := fun _ => ⟨rfl, .inl rfl⟩
theorem serAmpOffDelayLowerD : Statement .serAmpOffDelayLowerD := fun _ => ⟨rfl, .inl rfl⟩
theorem serAmpOffDelayUpperD : Statement .serAmpOffDelayUpperD := fun _ => ⟨rfl, .inl rfl⟩
theorem serMuteLowerM : Statement .serMuteLowerM := fun _ => ⟨rfl, .inl rfl⟩
theorem serMuteUpperM : Statement .serMuteUpperM := fun _ => ⟨rfl, .inl rfl⟩
theorem serVolumeUpPlus : Statement .serVolumeUpPlus := fun _ => ⟨rfl, .inl rfl⟩
theorem serVolumeDownMinus : Statement .serVolumeDownMinus := fun _ => ⟨rfl, .inl rfl⟩
theorem serIgnored (poll : Option Byte) : Statement (.serIgnored poll) := fun _ => ⟨rfl, .inl rfl⟩
theorem rcVolumeUp (toggle : Bool) : Statement (.rcVolumeUp toggle) := fun _ => ⟨rfl, .inl rfl⟩
theorem rcVolumeDown (toggle : Bool) : Statement (.rcVolumeDown toggle) := fun _ => ⟨rfl, .inl rfl⟩
theorem rcMute (toggle : Bool) : Statement (.rcMute toggle) := fun _ => ⟨rfl, .inl rfl⟩
theorem rcUnmapped (cmd : Byte) (toggle : Bool) : Statement (.rcUnmapped cmd toggle) := fun _ => ⟨rfl, .inl rfl⟩
theorem rcOtherAddr (addr cmd : Byte) (toggle : Bool) : Statement (.rcOtherAddr addr cmd toggle) := fun _ => ⟨rfl, .inl rfl⟩
theorem rcMalformed (startbits addr cmd : Byte) (toggle : Bool) : Statement (.rcMalformed startbits addr cmd toggle) := fun _ => ⟨rfl, .inl rfl⟩
theorem transmit (address command : Byte) : Statement (.transmit address command) := fun _ => ⟨rfl, .inl rfl⟩
theorem transmitRepeat : Statement .transmitRepeat := fun _ => ⟨rfl, .inr ⟨rfl, rfl⟩⟩
theorem burst1 (n : Units) : Statement (.burst1 n) := fun _ => ⟨rfl, .inl rfl⟩
theorem burst0 (n : Units) : Statement (.burst0 n) := fun _ => ⟨rfl, .inl rfl⟩
theorem sampleAmp : Statement .sampleAmp := fun _ => ⟨rfl, .inl rfl⟩
theorem sampleSrc : Statement .sampleSrc := fun _ => ⟨rfl, .inl rfl⟩
theorem relayPulse : Statement .relayPulse := fun _ => ⟨rfl, .inl rfl⟩
theorem iterate : Statement .iterate := fun _ => ⟨rfl, .inl rfl⟩

end Sys2Proof.Laws.FormatKept
end

