-- ==== Sys2Proof/Tests/Slice0.lean ====
section
/-! SUPPORT. Tests on one step or one operation. The expected results are those of the spec's vectors (file 95), whose
illustrative parameters are used, with one carrier cycle a unit and a hold of three half-periods to keep them
small. After them, for each statement with hypotheses, a state and operands that meet them. -/

open Sys2Proof Sys2Proof.Machine

namespace Sys2Proof.Tests

/-! ### Helpers -/

/-- The illustrative parameters of file 95, section 2.11. -/
def cfg : Config :=
  { cyclesPerUnit := 1, relayHold := 3, ledTicks := 3, offDelayTicks := 3, cmdVolDown := 0x61, remoteAddr := 0x05,
    rcVolUp := 0x10, rcVolDown := 0x11, rcMute := 0x0D, ampSensePol := .activeHigh, srcSensePol := .activeLow,
    relayPol := .activeLow, ledPol := .activeHigh, wdtPeriod := 304000, iterPeriod := 76 }

/-- The same with the spec's own timing. -/
def fullTiming : Config := { cfg with cyclesPerUnit := 21, hpPerUnit := 42, hpPerUnit_eq := rfl, relayHold := 7600 }

/-- A world that does nothing: the amplifier reads OFF, the source reads OFF. -/
def world : World :=
  { ampPin := false, srcPin := true, ampPower := false, serial := none, decoder := Decoder.initial, wdt := 0,
    wdtTrip := none, rstAt := none, stall := 0, hostCall := none, pending := [] }

/-- A machine before a step. -/
def at' (p : Phase) : State :=
  { State.afterReset cfg 0 world [] 0 with
    phase := p, ampPrev := false, srcPrev := false, serLat := none, rcLat := ⟨0, 0, 0, false⟩ }

/-- The machine with another world. -/
def State.inWorld (s : State) (f : World → World) : State := { s with world := f s.world }

/-- The amplifier reads ON, and is on. -/
def ampIsOn (w : World) : World := { w with ampPin := true, ampPower := true }

/-- The outcome is a next state with this property. -/
def holds (o : Host.Outcome State Fault Refusal) (p : State → Bool) : Bool :=
  match o with
  | .next t => p t
  | .fault _ => false
  | .refused _ => false

/-- A next state. -/
def goes (o : Host.Outcome State Fault Refusal) : Bool := holds o (fun _ => true)

/-- A next state with a property. -/
theorem exists_of_holds {o : Host.Outcome State Fault Refusal} {p : State → Bool} (h : holds o p = true) :
    ∃ t, o = .next t ∧ p t = true := by
  cases o with
  | next t => exact ⟨t, rfl, h⟩
  | fault r => exact absurd h Bool.false_ne_true
  | refused r => exact absurd h Bool.false_ne_true

/-- A command frame from the spaces of its slots, as the space strings of file 95 write it. -/
def frame (spaces : List Nat) : List Sym :=
  List.replicate 16 .mark ++ List.replicate 8 .space ++ spaces.flatMap (fun n => .mark :: List.replicate n .space) ++
    [.mark]

/-- The space string of vector V1, frame 0x11EE609F. -/
def v1 : List Nat := [1,1,1,3,1,1,1,3, 3,3,3,1,3,3,3,1, 1,3,3,1,1,1,1,1, 3,1,1,3,3,3,3,3]

/-- The space string of vector V2, frame 0x11EE629D. -/
def v2 : List Nat := [1,1,1,3,1,1,1,3, 3,3,3,1,3,3,3,1, 1,3,3,1,1,1,3,1, 3,1,1,3,3,3,1,3]

/-- The space string of vector V11, frame 0x11EE619E. -/
def v11 : List Nat := [1,1,1,3,1,1,1,3, 3,3,3,1,3,3,3,1, 1,3,3,1,1,1,1,3, 3,1,1,3,3,3,3,1]

/-- The space string of vector V8, frame 0x807F01FE. -/
def v8 : List Nat := [3,1,1,1,1,1,1,1, 1,3,3,3,3,3,3,3, 1,1,1,1,1,1,1,3, 3,3,3,3,3,3,3,1]

/-! ### Well-formedness -/

theorem test_ignored_byte_is_no_command : wellFormed cfg (.serIgnored (some 0x6E)) = false := by decide
theorem test_unmapped_is_not_mapped : wellFormed cfg (.rcUnmapped 0x0D false) = false := by decide
theorem test_other_address_is_not_own : wellFormed cfg (.rcOtherAddr 0x05 0x10 false) = false := by decide
theorem test_malformed_has_wrong_count : wellFormed cfg (.rcMalformed 3 0x05 0x10 false) = false := by decide

/-! ### Decoding -/

/-- The words of rule R72, bit by bit. -/
theorem test_decode_serial :
    decodeTableWord 8 0b01101110 = some .serAmpOnLowerN ∧ decodeTableWord 8 0b01001110 = some .serAmpOnUpperN ∧
    decodeTableWord 8 0b00110001 = some .serAmpOnDigit1 ∧ decodeTableWord 8 0b01100110 = some .serAmpOffLowerF ∧
    decodeTableWord 8 0b01000110 = some .serAmpOffUpperF ∧ decodeTableWord 8 0b00110000 = some .serAmpOffDigit0 ∧
    decodeTableWord 8 0b01100100 = some .serAmpOffDelayLowerD ∧
    decodeTableWord 8 0b01000100 = some .serAmpOffDelayUpperD ∧ decodeTableWord 8 0b01101101 = some .serMuteLowerM ∧
    decodeTableWord 8 0b01001101 = some .serMuteUpperM ∧ decodeTableWord 8 0b00101011 = some .serVolumeUpPlus ∧
    decodeTableWord 8 0b00101101 = some .serVolumeDownMinus := by decide

/-- Vectors B13 to B24: none of these is a command. -/
theorem test_decode_ignored :
    ∀ b ∈ [0x00, 0x0A, 0x0D, 0x20, 0x32, 0x2C, 0x0B, 0x6F, 0x4F, 0x11, 0x10, 0xEE, 0xCE, 0xED, 0xFF, 0x80],
      decodeTableWord 8 b = some (.serIgnored (some (BitVec.ofNat 8 b))) := by decide

/-- The empty poll, -1 (rule R81). -/
theorem test_decode_no_byte : decode cfg (.ser8 none) = .ok (.serIgnored none) := rfl

/-- Vectors Q2 and Q6 to Q12. -/
theorem test_decode_records :
    decodeRecord cfg ⟨2, 0x05, 0x10, false⟩ = .rcMalformed 2 0x05 0x10 false ∧
    decodeRecord cfg ⟨3, 0x06, 0x10, false⟩ = .rcOtherAddr 0x06 0x10 false ∧
    decodeRecord cfg ⟨3, 0x05, 0x10, true⟩ = .rcVolumeUp true ∧
    decodeRecord cfg ⟨3, 0x05, 0x11, false⟩ = .rcVolumeDown false ∧
    decodeRecord cfg ⟨3, 0x05, 0x0D, false⟩ = .rcMute false ∧
    decodeRecord cfg ⟨3, 0x05, 0x33, false⟩ = .rcUnmapped 0x33 false ∧
    decodeRecord cfg ⟨3, 0x85, 0x10, false⟩ = .rcOtherAddr 0x85 0x10 false := by decide

/-- Frames F1 and F9, bit by bit, and one with a wrong complement (rule R83). -/
theorem test_decode_frames :
    decodeTableWord 32 0b00010001111011100110000010011111 = some (.transmit 0x11 0x60) ∧
    decodeTableWord 32 0b00000001111111101000000001111111 = some (.transmit 0x01 0x80) ∧
    decodeTableWord 32 0b00010001111011100110000010011110 = none := by decide

theorem test_decode_repeat : decode cfg (.internal .transmitRepeat) = .ok .transmitRepeat ∧
    Instr.transmitRepeat.format = .internal ∧ Instr.transmitRepeat.tableFormat = .necrpt := ⟨rfl, rfl, rfl⟩

/-- The other operations without an encoding go by their name (rule R70). -/
theorem test_decode_internal :
    decode cfg (.internal (.burst1 16)) = .ok (.burst1 16) ∧
    decode cfg (.internal (.burst0 8)) = .ok (.burst0 8) ∧
    decode cfg (.internal .sampleAmp) = .ok .sampleAmp ∧
    decode cfg (.internal .sampleSrc) = .ok .sampleSrc ∧
    decode cfg (.internal .relayPulse) = .ok .relayPulse ∧
    decode cfg (.internal .iterate) = .ok .iterate := ⟨rfl, rfl, rfl, rfl, rfl, rfl⟩

/-! ### Operations -/

/-- Rule R100, its example, with one cycle a unit. -/
theorem test_burst1 : holds (exec (.burst1 2) (at' .p1)) (fun t =>
    t.trace == [.ir true 1, .ir false 1, .ir true 1, .ir false 1] && t.elapsed == 4 && t.irOut == false) = true := by
  decide

/-- With 21 cycles a unit is 42 samples (rule R100, its example). -/
theorem test_burst1_samples : holds (exec (.burst1 1) { at' .p1 with cfg := fullTiming }) (fun t =>
    (pinLevel t.trace).length == 42 && t.elapsed == 42) = true := by decide

theorem test_burst0 : holds (exec (.burst0 8) { at' .p1 with cfg := fullTiming }) (fun t =>
    t.elapsed == 336 && (pinLevel t.trace).all (fun b => !b)) = true := by decide +kernel

/-- Vector V1. -/
theorem test_transmit : holds (exec (.transmit 0x11 0x60) (at' .p1)) (fun t =>
    unitsOf cfg t.trace == some (frame v1) && t.irOut == false) = true := by decide +kernel

/-- Vector V8: bit 7 of the address is sent first. -/
theorem test_transmit_msb_first : holds (exec (.transmit 0x80 0x01) (at' .p1)) (fun t =>
    unitsOf cfg t.trace == some (frame v8) && t.elapsed == 242) = true := by decide +kernel

/-- Vector V12. -/
theorem test_transmit_repeat : holds (exec .transmitRepeat (at' .p1)) (fun t =>
    unitsOf cfg t.trace == some (List.replicate 16 .mark ++ List.replicate 4 .space ++ [.mark])) = true := by
  decide +kernel

/-- Rule R130: the level as it is; the previous sample stays. -/
theorem test_sample_amp : holds (exec .sampleAmp (State.inWorld (at' .p2) ampIsOn)) (fun t =>
    t.sampled && !t.ampPrev && t.trace == []) = true := by decide

/-- Rule R130, its example, for the other rail: active low and the pin low reads ON. -/
theorem test_sample_src_active_low :
    holds (exec .sampleSrc (State.inWorld (at' .p3) (fun w => { w with srcPin := false }))) (fun t =>
      t.sampled && !t.srcPrev) = true := by decide

/-- Vector A11. -/
theorem test_relay_pulse : holds (exec .relayPulse { at' .p3 with offt := 57 }) (fun t =>
    t.trace == [.relay true, .hold 3, .relay false] && t.offt == 57 && !t.relay && t.world.ampPower) = true := by decide

/-- Vector A2. -/
theorem test_amp_on_pulses : holds (exec .serAmpOnLowerN { at' .p5 with offt := 57 }) (fun t =>
    t.trace == [.relay true, .hold 3, .relay false] && t.offt == 0 && t.ret == .p5) = true := by decide

/-- Vector A4. -/
theorem test_amp_on_redundant : holds (exec .serAmpOnUpperN (State.inWorld { at' .p5 with offt := 57 } ampIsOn)) (fun t =>
    t.trace == [.log .alreadyOn] && t.offt == 0 && t.elapsed == 0) = true := by decide

/-- Vector A1. -/
theorem test_amp_on_digit : holds (exec .serAmpOnDigit1 (at' .p5)) (fun t =>
    t.trace == [.relay true, .hold 3, .relay false] && !t.ampPrev) = true := by decide

/-- Vector A6. -/
theorem test_amp_off_pulses : holds (exec .serAmpOffLowerF (State.inWorld { at' .p5 with offt := 57 } ampIsOn)) (fun t =>
    t.trace == [.relay true, .hold 3, .relay false] && t.offt == 0 && !t.world.ampPower) = true := by decide

/-- Vector A8. -/
theorem test_amp_off_redundant : holds (exec .serAmpOffUpperF { at' .p5 with offt := 57 }) (fun t =>
    t.trace == [.log .alreadyOff] && t.offt == 0) = true := by decide

/-- Vector A5. -/
theorem test_amp_off_digit : holds (exec .serAmpOffDigit0 (State.inWorld (at' .p5) ampIsOn)) (fun t =>
    t.trace == [.relay true, .hold 3, .relay false] && t.offt == 0) = true := by decide

/-- Vector A9. -/
theorem test_amp_off_delay : holds (exec .serAmpOffDelayLowerD (at' .p5)) (fun t => t.trace == [] && t.offt == 3) = true := by
  decide

/-- Vector A10. -/
theorem test_amp_off_delay_restarts : holds (exec .serAmpOffDelayUpperD { at' .p5 with offt := 2 }) (fun t =>
    t.trace == [] && t.offt == 3) = true := by decide

/-- Vector K1. -/
theorem test_serial_mute : holds (exec .serMuteUpperM { at' .p5 with offt := 2 }) (fun t =>
    unitsOf cfg t.trace == some (frame v1) && t.offt == 2 && !t.led && t.ledt == 0) = true := by decide +kernel

theorem test_serial_mute_lower : holds (exec .serMuteLowerM (at' .p5)) (fun t =>
    unitsOf cfg t.trace == some (frame v1)) = true := by decide +kernel

/-- Vector K2. -/
theorem test_serial_volume_up : holds (exec .serVolumeUpPlus (at' .p5)) (fun t =>
    unitsOf cfg t.trace == some (frame v2)) = true := by decide +kernel

/-- Vector K3, with the illustrative command byte. -/
theorem test_serial_volume_down : holds (exec .serVolumeDownMinus (at' .p5)) (fun t =>
    unitsOf cfg t.trace == some (frame v11)) = true := by decide +kernel

/-- Vectors B13, B14: nothing changes. -/
theorem test_serial_ignored : exec (.serIgnored none) (at' .p5) = .next (at' .p5) ∧
    exec (.serIgnored (some 0x00)) (at' .p5) = .next (at' .p5) := ⟨rfl, rfl⟩

/-- Vector Q7, without the re-arm. -/
theorem test_remote_volume_up : holds (exec (.rcVolumeUp false) { at' .p7 with offt := 2 }) (fun t =>
    t.trace.head? == some (.led true) && unitsOf cfg t.trace == some (frame v2) && t.ledt == 3 && t.led &&
      t.offt == 2) = true := by decide +kernel

/-- Vector Q9. -/
theorem test_remote_volume_down : holds (exec (.rcVolumeDown true) (at' .p7)) (fun t =>
    unitsOf cfg t.trace == some (frame v11) && t.ledt == 3 && t.led) = true := by decide +kernel

/-- Vector Q10. -/
theorem test_remote_mute : holds (exec (.rcMute false) (at' .p7)) (fun t =>
    unitsOf cfg t.trace == some (frame v1) && t.ledt == 3 && t.led) = true := by decide +kernel

/-- Vector Q11. -/
theorem test_remote_unmapped : holds (exec (.rcUnmapped 0x33 false) (at' .p7)) (fun t =>
    t.trace == [.led true, .log (.rcUnmapped 0x33)] && t.ledt == 3 && t.led) = true := by decide

/-- Vector Q6. -/
theorem test_remote_other_address : holds (exec (.rcOtherAddr 0x06 0x10 false) (at' .p7)) (fun t =>
    t.trace == [.log (.rcOtherAddr 0x06 0x10)] && t.ledt == 0 && !t.led) = true := by decide

/-- Vector Q2. -/
theorem test_remote_malformed : holds (exec (.rcMalformed 2 0x05 0x10 false) (at' .p7)) (fun t =>
    t.trace == [.log (.malformed 2)] && t.ledt == 0 && !t.led) = true := by decide

/-- Program P5, iteration 0, without its frames' bits: the order of service. -/
theorem test_iterate_order :
    holds (exec .iterate (State.inWorld { at' .p1 with ledt := 1, led := true } (fun w =>
      { w with pending := Inputs.script cfg ⟨false, true, false, true, some 0x2B, some ⟨3, 0x05, 0x0D, false⟩⟩ }))) (fun t =>
      t.trace.filter (fun e => e.pinLevels.isEmpty) ==
        [.wdtKick, .relay true, .hold 3, .relay false, .led false, .rcRearm, .led true] &&
      t.context == ⟨false, true, 0, 3, true⟩) = true := by decide +kernel

/-- Program P2, iteration 5: the off-delay fires. -/
theorem test_iterate_off_delay :
    holds (exec .iterate (State.inWorld { at' .p1 with ampPrev := true, offt := 1 } ampIsOn)) (fun t =>
      t.trace == [.wdtKick, .relay true, .hold 3, .relay false] && t.offt == 0) = true := by decide +kernel

/-! ### Steps -/

/-- Vectors T1 to T4, T6. -/
theorem test_step4 :
    holds (step (at' .p4)) (fun t => t.trace == [] && t.offt == 0) = true ∧
    holds (step (State.inWorld { at' .p4 with offt := 1 } ampIsOn)) (fun t =>
      t.trace == [.relay true, .hold 3, .relay false] && t.offt == 0) = true ∧
    holds (step { at' .p4 with offt := 1 }) (fun t => t.trace == [.log .alreadyOff] && t.offt == 0) = true ∧
    holds (step { at' .p4 with offt := 2 }) (fun t => t.trace == [] && t.offt == 1) = true ∧
    holds (step { at' .p4 with offt := 65535 }) (fun t => t.trace == [] && t.offt == 65534) = true := by decide

/-- Vectors L1 to L3. -/
theorem test_step6 :
    holds (step (at' .p6)) (fun t => t.trace == [] && t.ledt == 0) = true ∧
    holds (step { at' .p6 with ledt := 1, led := true }) (fun t => t.trace == [.led false] && t.ledt == 0 && !t.led) = true ∧
    holds (step { at' .p6 with ledt := 2, led := true }) (fun t => t.trace == [] && t.ledt == 1 && t.led) = true := by
  decide

/-- Vectors S1, S3: a change of the amplifier is logged. -/
theorem test_step2 :
    holds (step (State.inWorld (at' .p2) ampIsOn)) (fun t => t.trace == [.log (.ampState true)] && t.ampPrev) = true ∧
    holds (step (State.inWorld { at' .p2 with ampPrev := true } ampIsOn)) (fun t => t.trace == [] && t.ampPrev) = true := by
  decide

/-- Vectors S5, S6, S8. -/
theorem test_step3 :
    holds (step (State.inWorld (at' .p3) (fun w => { w with srcPin := false }))) (fun t =>
      t.trace == [.relay true, .hold 3, .relay false] && t.srcPrev && t.ret == .p3) = true ∧
    holds (step { at' .p3 with srcPrev := true }) (fun t => t.trace == [] && !t.srcPrev && t.offt == 3) = true ∧
    holds (step (at' .p3)) (fun t => t.trace == [] && !t.srcPrev && t.offt == 0) = true := by decide

/-- Vectors Q1, Q5: a malformed record re-arms the decoder. -/
theorem test_step7 :
    holds (step (at' .p7)) (fun t => t.trace == [] && t.phase == .p1) = true ∧
    holds (step (State.inWorld (at' .p7) (fun w => { w with decoder := ⟨true, true, some ⟨255, 0, 0, false⟩⟩ }))) (fun t =>
      t.trace == [.rcRearm, .log (.malformed 255)] && t.world.decoder == ⟨true, true, none⟩ && t.phase == .p1) = true := by
  decide

/-- Vector Z6: `rst` in the middle of a hold. -/
theorem test_reset_cuts_pulse :
    holds (step (State.inWorld (at' .p5) (fun w => { w with serial := some 0x6E, rstAt := some 2 }))) (fun t =>
      t.trace == [.relay true, .hold 2, .relay false] && t.phase == .p1 && t.resets == 1 && t.elapsed == 2) = true := by
  decide

/-- Vector Z5: a reset loses the delayed off and the LED window. -/
theorem test_reset_loses_timers :
    holds (step (State.inWorld { at' .p4 with offt := 40, ledt := 1200, led := true } (fun w => { w with rstAt := some 0 })))
      (fun t => t.trace == [.led false] && t.offt == 0 && t.ledt == 0 && !t.led && t.phase == .p1) = true := by decide

/-- A host's frame whose complement is wrong is refused by name (rule R83). -/
theorem test_host_frame_refused :
    step (State.inWorld (at' .p1) (fun w => { w with hostCall := some (.nec32 0x11EE609E) })) =
      .refused (.hostFrameNotNec 0x11EE609E) := rfl

/-- The first step after reset with a word placed reads it and completes. -/
theorem test_fetch_word : (State.reset.withFetchWord 8 0x6E).fetch = some (.ser8 (some 0x6E)) ∧
    (State.reset.withFetchWord 32 0x11EE609F).fetch = some (.nec32 0x11EE609F) ∧
    goes (step (State.reset.withFetchWord 8 0x6E)) = true ∧
    goes (step (State.reset.withFetchWord 32 0x11EE609F)) = true := ⟨rfl, rfl, rfl, rfl⟩

/-! ### Witnesses: for each statement with hypotheses, a state and operands that meet all of them -/

/-- Helper: a step that nothing disturbs. -/
theorem undisturbed_of {s : State} {n : Nat}
    (h : (s.world.calm && decide (s.world.wdt + (s.world.stall + s.loopTime + n) ≤ s.cfg.wdtPeriod)) = true) :
    s.undisturbed n := by
  rw [Bool.and_eq_true, decide_eq_true_iff] at h
  exact h

/-- Before step 7, with this record to report. -/
def withRecord (r : RcRecord) : State := State.inWorld (at' .p7) (fun w => { w with decoder := ⟨true, true, some r⟩ })

/-- Before step 5, with this byte to read. -/
def withByte (b : Option Byte) : State := State.inWorld (at' .p5) (fun w => { w with serial := b })

theorem witness_DecodeInvertsEncode : cfg.legal = true ∧ wellFormed cfg (.rcVolumeDown true) = true ∧
    wellFormed cfg (.rcUnmapped 0x0C false) = true ∧ wellFormed cfg (.rcOtherAddr 0x06 0x10 true) = true ∧
    wellFormed cfg (.rcMalformed 2 0x05 0x10 true) = true ∧ wellFormed cfg (.serIgnored (some 0x2C)) = true ∧
    wellFormed cfg (.transmit 0xFF 0x00) = true ∧ wellFormed cfg (.burst1 31) = true := by decide

theorem witness_EncodeInvertsDecode : decode cfg (.nec32 0xFF00FF00) = .ok (.transmit 0xFF 0xFF) ∧
    decode cfg (.rcrec ⟨3, 0x05, 0x0D, true⟩) = .ok (.rcMute true) ∧ decode cfg (.ser8 (some 0x64)) = .ok .serAmpOffDelayLowerD :=
  ⟨rfl, rfl, rfl⟩

theorem witness_OtherBytesIgnored : serialIgnored (some 0x80) = true ∧ serialIgnored none = true ∧ (0x80 : Byte) ≤ 0x80 ∧
    (withByte none).phase = .p5 ∧ (withByte none).undisturbed 0 ∧ serialIgnored (withByte none).world.serial = true ∧
    (withByte (some 0xFF)).undisturbed 0 ∧ serialIgnored (withByte (some 0xFF)).world.serial = true :=
  ⟨rfl, rfl, by decide, rfl, undisturbed_of rfl, rfl, undisturbed_of rfl, rfl⟩

theorem witness_PinLowAfterGenerator :
    (Instr.burst1 0 = .burst1 0 ∨ Instr.burst1 0 = .burst0 0) ∧ (Instr.burst0 31 = .burst1 31 ∨ Instr.burst0 31 = .burst0 31) ∧
    ∃ t, exec (.burst1 1) (at' .p1) = .next t ∧ (observed ((at' .p1).newEvents t)).getLast? = some (.ir false 1) :=
  ⟨.inl rfl, .inr rfl, _, rfl, by decide⟩

theorem witness_BurstUnits : (at' .p1).cfg.cyclesPerUnit ≠ 0 ∧ fullTiming.cyclesPerUnit ≠ 0 := by decide

/-- For `TransmitResult`, `TransmitUnits`, `FrameLength`, `RepeatResult` and `ListenerReads`. -/
theorem witness_frameShape : (at' .p1).cfg.frameShape = true ∧ fullTiming.frameShape = true ∧
    fullTiming.cyclesPerUnit = 21 := by decide

theorem witness_LeadIn : fullTiming.frameShape = true ∧ fullTiming.cyclesPerUnit = 21 ∧ fullTiming.tUnitNs = 562500 := by
  decide

/-- For `AmpOnResult` and `AmpOnTwice`: either byte case and the digit. -/
theorem witness_AmpOn : ∀ i ∈ [Instr.serAmpOnLowerN, .serAmpOnUpperN, .serAmpOnDigit1],
    i = .serAmpOnLowerN ∨ i = .serAmpOnUpperN ∨ i = .serAmpOnDigit1 := by decide

theorem witness_AmpOffResult : ∀ i ∈ [Instr.serAmpOffLowerF, .serAmpOffUpperF, .serAmpOffDigit0],
    i = .serAmpOffLowerF ∨ i = .serAmpOffUpperF ∨ i = .serAmpOffDigit0 := by decide

theorem witness_AmpOffDelayResult : ∀ i ∈ [Instr.serAmpOffDelayLowerD, .serAmpOffDelayUpperD],
    i = .serAmpOffDelayLowerD ∨ i = .serAmpOffDelayUpperD := by decide

theorem witness_AmpReachesTarget : (at' .p5).ampResponds ∧ (State.inWorld (at' .p5) ampIsOn).ampResponds := ⟨rfl, rfl⟩

theorem witness_SerialCommandsTransmit :
    (Instr.serVolumeUpPlus = .serVolumeUpPlus ∧ (0x62 : Byte) = (at' .p5).cfg.cmdVolUp) ∧
    (Instr.serVolumeDownMinus = .serVolumeDownMinus ∧ (0x61 : Byte) = (at' .p5).cfg.cmdVolDown) ∧
    ((Instr.serMuteLowerM = .serMuteLowerM ∨ Instr.serMuteLowerM = .serMuteUpperM) ∧ (0x60 : Byte) = (at' .p5).cfg.cmdMute) := by
  decide

theorem witness_MuteFrame : (at' .p5).cfg.frameShape = true ∧ (at' .p5).cfg.necAddr = 0x11 ∧ (at' .p5).cfg.cmdMute = 0x60 ∧
    ∀ i ∈ [Instr.serMuteLowerM, .serMuteUpperM, .rcMute true], i = .serMuteLowerM ∨ i = .serMuteUpperM ∨ i = .rcMute true := by
  decide

theorem witness_RemoteCommandsTransmit :
    (Instr.rcVolumeUp true = .rcVolumeUp true ∧ (0x62 : Byte) = (at' .p7).cfg.cmdVolUp) ∧
    (Instr.rcVolumeDown true = .rcVolumeDown true ∧ (0x61 : Byte) = (at' .p7).cfg.cmdVolDown) ∧
    (Instr.rcMute true = .rcMute true ∧ (0x60 : Byte) = (at' .p7).cfg.cmdMute) := by decide

/-- A serial command, a record and a host's call. -/
theorem witness_StepRunsDecoded :
    ((withByte (some 0x64)).resetDue = false ∧ (withByte (some 0x64)).cfg.legal = true ∧
      wellFormed cfg .serAmpOffDelayLowerD = true ∧
      (withByte (some 0x64)).fetch = some (encode cfg .serAmpOffDelayLowerD) ∧
      goes (exec .serAmpOffDelayLowerD (withByte (some 0x64)).startStep.issue) = true) ∧
    ((withRecord ⟨3, 0x05, 0x33, true⟩).fetch = some (encode cfg (.rcUnmapped 0x33 true)) ∧
      wellFormed cfg (.rcUnmapped 0x33 true) = true) ∧
    (State.inWorld (at' .p1) (fun w => { w with hostCall := some .transmitRepeat })).fetch =
      some (encode cfg .transmitRepeat) := by
  decide

/-- A step of the loop, and a host's call. -/
theorem witness_PhaseOrder : (at' .p3).phase ≠ .busy ∧ (∃ t, step (at' .p3) = .next t ∧ (t.resets == 0) = true) ∧
    ∃ t, step (State.inWorld (at' .p1) (fun w => { w with hostCall := some (.burst0 2) })) = .next t ∧
      (t.resets == 0) = true :=
  ⟨by decide, exists_of_holds (by decide), exists_of_holds (by decide)⟩

theorem witness_Step1Kicks : (at' .p1).phase = .p1 ∧ (at' .p1).world.hostCall = none ∧ (at' .p1).undisturbed 0 :=
  ⟨rfl, rfl, undisturbed_of rfl⟩

/-- The loop's own time just fits. -/
theorem witness_Step2Observes : (at' .p2).phase = .p2 ∧ (at' .p2).undisturbed 0 ∧
    { at' .p2 with cfg := { cfg with wdtPeriod := 76 } }.undisturbed 0 ∧ (at' .p3).phase ≠ .p2 ∧ (at' .p1).phase ≠ .p2 ∧
    (at' .p1).world.hostCall = none ∧ goes (step (at' .p1)) = true ∧ goes (step (at' .p3)) = true :=
  ⟨rfl, undisturbed_of rfl, undisturbed_of rfl, by decide, by decide, rfl, by decide, by decide⟩

/-- No edge, a rising one and a falling one. -/
theorem witness_Step3Edges : (at' .p3).phase = .p3 ∧ (at' .p3).undisturbed 3 ∧
    (State.inWorld (at' .p3) (fun w => { w with srcPin := false })).undisturbed 3 ∧
    { at' .p3 with srcPrev := true }.undisturbed 3 :=
  ⟨rfl, undisturbed_of rfl, undisturbed_of rfl, undisturbed_of rfl⟩

/-- The timer at 0, 1, 2 and its largest value. -/
theorem witness_Step4Countdown : ∀ v ∈ [(0 : Timer), 1, 2, 65535], { at' .p4 with offt := v }.undisturbed 3 := by
  intro v _
  exact undisturbed_of rfl

theorem witness_Step5Polls : (withByte (some 0x4D)).phase = .p5 ∧ (withByte (some 0x4D)).cfg.frameShape = true ∧
    (withByte (some 0x4D)).undisturbed cfg.longestCall :=
  ⟨rfl, rfl, undisturbed_of rfl⟩

theorem witness_Step6Window : ∀ v ∈ [(0 : Timer), 1, 2, 65535], { at' .p6 with ledt := v }.undisturbed 0 := by
  intro v _
  exact undisturbed_of rfl

/-- No record, and one. -/
theorem witness_Step7PollsAndRearms : (at' .p7).phase = .p7 ∧ (at' .p7).cfg.frameShape = true ∧
    (at' .p7).undisturbed (121 * cfg.hpPerUnit) ∧ (at' .p7).world.decoder.report = none ∧
    (withRecord ⟨3, 0x05, 0x0D, true⟩).undisturbed (121 * cfg.hpPerUnit) ∧
    (withRecord ⟨3, 0x05, 0x0D, true⟩).world.decoder.report = some ⟨3, 0x05, 0x0D, true⟩ :=
  ⟨rfl, rfl, undisturbed_of rfl, rfl, undisturbed_of rfl, rfl⟩

theorem witness_MalformedRecord : (withRecord ⟨2, 0x05, 0x10, true⟩).undisturbed 0 ∧
    (withRecord ⟨2, 0x05, 0x10, true⟩).world.decoder.report = some ⟨2, 0x05, 0x10, true⟩ ∧ (2 : Byte) ≠ cfg.startBitsValid ∧
    (4 : Byte) ≠ cfg.startBitsValid :=
  ⟨undisturbed_of rfl, rfl, by decide, by decide⟩

theorem witness_OtherAddressRecord : (withRecord ⟨3, 0x06, 0x10, true⟩).undisturbed 0 ∧
    (withRecord ⟨3, 0x06, 0x10, true⟩).world.decoder.report = some ⟨3, 0x06, 0x10, true⟩ ∧ (3 : Byte) = cfg.startBitsValid ∧
    (0x06 : Byte) ≠ cfg.remoteAddr :=
  ⟨undisturbed_of rfl, rfl, by decide, by decide⟩

/-- With a mapped and with an unmapped command. -/
theorem witness_OwnAddressRecord : (withRecord ⟨3, 0x05, 0x10, true⟩).undisturbed (121 * cfg.hpPerUnit) ∧
    (withRecord ⟨3, 0x05, 0x10, true⟩).world.decoder.report = some ⟨3, 0x05, 0x10, true⟩ ∧
    (withRecord ⟨3, 0x05, 0x33, true⟩).world.decoder.report = some ⟨3, 0x05, 0x33, true⟩ ∧ cfg.frameShape = true ∧
    (3 : Byte) = cfg.startBitsValid ∧ (0x05 : Byte) = cfg.remoteAddr :=
  ⟨undisturbed_of rfl, rfl, rfl, rfl, by decide, by decide⟩

theorem witness_SevenStepsAreIterate : (at' .p1).phase = .p1 ∧ (at' .p1).world.hostCall = none ∧
    ∃ t, exec .iterate (at' .p1) = .next t ∧ (t.resets == 0) = true :=
  ⟨rfl, rfl, exists_of_holds (by decide +kernel)⟩

/-- The watchdog's period is just long enough: 2 x 242 + 3 + 76 half-periods. -/
theorem witness_IterateImplementsPure :
    let u : Inputs := ⟨false, true, false, true, some 0x2B, some ⟨3, 0x05, 0x0D, false⟩⟩
    let s := State.inWorld { at' .p1 with cfg := { cfg with wdtPeriod := 563 } } (fun w => { w with pending := u.script cfg })
    s.cfg.frameShape = true ∧ s.world.calm = true ∧ s.world.stall = 0 ∧ s.world.pending = u.script s.cfg ++ [] ∧
      s.world.decoder.initialised = true ∧ s.world.decoder.armed = true ∧
      s.cfg.worstBlocking + s.cfg.iterPeriod ≤ s.cfg.wdtPeriod := by decide

theorem witness_IdleIteration : (at' .p1).idleWorld ∧ (at' .p1).phase = .p1 ∧ (at' .p1).offt = 0 ∧ (at' .p1).ledt = 0 ∧
    cfg.iterPeriod ≤ cfg.wdtPeriod :=
  ⟨⟨rfl, rfl, rfl, rfl, rfl⟩, rfl, rfl, rfl, by decide⟩

/-- For `IterationContents`: an iteration with two pulses and a frame, and one with a pulse and two frames. -/
theorem witness_IterationContents : ∀ x ∈ [((0x6E : Byte), 2, 242), (0x2B, 1, 484)],
    ∃ t, exec .iterate (State.inWorld { at' .p1 with srcPrev := false } (fun w =>
      { w with srcPin := false, serial := some x.1, decoder := ⟨true, true, some ⟨3, 0x05, 0x0D, false⟩⟩ })) = .next t ∧
      (t.resets == 0 && t.cfg.frameShape && pulses t.trace == x.2.1 && (pinLevel t.trace).length == x.2.2) = true := by
  intro x hx
  refine exists_of_holds ?_
  revert x
  decide +kernel

/-- Before each of the seven steps. -/
theorem witness_RegisterWriters : ∀ p ∈ [Phase.p1, .p2, .p3, .p4, .p5, .p6, .p7],
    (at' p).phase ≠ .busy ∧ ((at' p).phase = .p1 → (at' p).world.hostCall = none) ∧
      holds (step (at' p)) (fun t => t.resets == (at' p).resets) = true := by decide +kernel

theorem witness_SourceReadOnlyInStep3 : ∀ p ∈ [Phase.p1, .p2, .p4, .p5, .p6, .p7],
    (at' p).phase ≠ .p3 ∧ ((at' p).phase = .p1 → (at' p).world.hostCall = none) ∧ goes (step (at' p)) = true := by
  decide +kernel

theorem witness_ParametersFixed : goes (step (at' .p1)) = true := by decide

/-- With the amplifier off, and on. -/
theorem witness_OffDelayFiresOnce : (at' .p1).phase = .p1 ∧ (at' .p1).ampSense = false ∧
    (State.inWorld (at' .p1) ampIsOn).ampSense = true ∧ (at' .p1).world.still = true ∧
    (at' .p1).srcSense = (at' .p1).srcPrev ∧ (at' .p1).world.serial = none ∧ (at' .p1).world.decoder.report = none ∧
    { at' .p1 with offt := 2 }.offt ≠ 0 ∧ cfg.worstBlocking + cfg.iterPeriod ≤ cfg.wdtPeriod ∧
    (State.inWorld (at' .p1) ampIsOn).world.still = true :=
  ⟨rfl, rfl, rfl, rfl, rfl, rfl, rfl, by decide, by decide, rfl⟩

theorem witness_LedWindowEndsOnce : { at' .p1 with led := true, ledt := 2 }.led = true ∧
    { at' .p1 with led := true, ledt := 2 }.ledt ≠ 0 ∧ (at' .p1).world.still = true ∧
    (at' .p1).srcSense = (at' .p1).srcPrev ∧ cfg.worstBlocking + cfg.iterPeriod ≤ cfg.wdtPeriod :=
  ⟨rfl, by decide, rfl, rfl, by decide⟩

theorem witness_StepKeepsInvariant : { at' .p6 with led := true, ledt := 1, offt := 3 }.Inv ∧
    goes (step { at' .p6 with led := true, ledt := 1, offt := 3 }) = true :=
  ⟨⟨rfl, rfl, rfl, rfl, by decide, by decide, by decide, rfl, rfl⟩, by decide⟩

theorem witness_ResetTaken : (State.inWorld { at' .busy with relay := true } (fun w => { w with rstAt := some 0 })).resetDue = true ∧
    (State.inWorld (at' .p4) (fun w => { w with wdtTrip := some 0 })).resetDue = true := by decide

/-- The machine with a reset this many half-periods from now, and collaborators that take 5: from `rst`, or from the
watchdog. -/
def rstIn (d : Nat) (s : State) : State := State.inWorld s (fun w => { w with stall := 5, rstAt := some d })
def wdtIn (d : Nat) (s : State) : State := State.inWorld s (fun w => { w with stall := 5, wdt := cfg.wdtPeriod - d })

/-- Helper: `rst` on its way, or the watchdog. -/
theorem resetWithin_rst {s : State} {d n : Nat} (h : (s.world.wdtTrip.isNone && s.world.rstAt == some (s.elapsed + d) &&
    decide (s.world.wdt + n ≤ s.cfg.wdtPeriod)) = true) : s.resetWithin d n := by
  simp only [Bool.and_eq_true, decide_eq_true_iff, beq_iff_eq, Option.isNone_iff_eq_none] at h
  exact ⟨h.1.1, .inl ⟨h.1.2, h.2⟩⟩

theorem resetWithin_wdt {s : State} {d n : Nat} (h : (s.world.wdtTrip.isNone && s.world.rstAt.isNone &&
    decide (s.world.wdt + d = s.cfg.wdtPeriod)) = true) : s.resetWithin d n := by
  simp only [Bool.and_eq_true, decide_eq_true_iff, Option.isNone_iff_eq_none] at h
  exact ⟨h.1.1, .inr ⟨h.1.2, h.2⟩⟩

/-- The hold of 3 half-periods cut after 1 and after 2: the pulse of step 3, of step 4, of a serial `1` and of a serial `F`. -/
theorem witness_ResetCutsPulse :
    ((at' .p3).srcPrev = false ∧ (State.inWorld (at' .p3) (fun w => { w with srcPin := false })).srcSense = true ∧
      (at' .p3).ampSense = false ∧
      (rstIn 6 (State.inWorld (at' .p3) (fun w => { w with srcPin := false }))).resetWithin 6 8) ∧
    ((State.inWorld (at' .p4) ampIsOn).ampSense = true ∧
      (wdtIn 7 (State.inWorld { at' .p4 with offt := 1 } ampIsOn)).resetWithin 7 8) ∧
    ((withByte (some 0x31)).world.serial ∈ [some 0x6E, some 0x4E, some 0x31] ∧ (withByte (some 0x31)).ampSense = false ∧
      (wdtIn 6 (withByte (some 0x31))).resetWithin 6 8) ∧
    (withByte (some 0x46)).world.serial ∈ [some 0x66, some 0x46, some 0x30] ∧
      (State.inWorld (withByte (some 0x46)) ampIsOn).ampSense = true ∧
      (rstIn 7 (State.inWorld (withByte (some 0x46)) ampIsOn)).resetWithin 7 8 :=
  ⟨⟨rfl, rfl, rfl, resetWithin_rst rfl⟩, ⟨rfl, resetWithin_wdt rfl⟩, ⟨by decide, rfl, resetWithin_wdt rfl⟩, by decide, rfl,
    resetWithin_rst rfl⟩

/-- The frame of 242 half-periods cut after 1 and after 241, the repeat frame of 42 after 41. -/
theorem witness_ResetCutsFrame_length : (commandUnits cfg (necFrame cfg.necAddr 0x61)).length * cfg.hpPerUnit = 242 ∧
    (repeatUnits cfg).length * cfg.hpPerUnit = 42 ∧ cfg.frameShape = true ∧ cfg.legal = true := by decide +kernel

/-- A serial `-`. -/
theorem witness_ResetCutsFrame_serial :
    (0x2D, (0x61 : Byte)) ∈ [(0x6D, cfg.cmdMute), (0x4D, cfg.cmdMute), (0x2B, cfg.cmdVolUp), ((0x2D : Byte), cfg.cmdVolDown)] ∧
      (rstIn 6 (withByte (some 0x2D))).resetWithin 6 247 :=
  ⟨by decide, resetWithin_rst (by decide +kernel)⟩

/-- A record for volume down, with all that the statement asks. -/
theorem witness_ResetCutsFrame : (withRecord ⟨3, 0x05, 0x11, true⟩).cfg.frameShape = true ∧
    (withRecord ⟨3, 0x05, 0x11, true⟩).cfg.legal = true ∧ (wdtIn 246 (withRecord ⟨3, 0x05, 0x11, true⟩)).phase = .p7 ∧
    (3 : Byte) = cfg.startBitsValid ∧ (0x05 : Byte) = cfg.remoteAddr ∧
    (wdtIn 246 (withRecord ⟨3, 0x05, 0x11, true⟩)).world.decoder.report = some ⟨3, 0x05, 0x11, true⟩ ∧
      (0x11, (0x61 : Byte)) ∈ [(cfg.rcVolUp, cfg.cmdVolUp), (cfg.rcVolDown, cfg.cmdVolDown), (cfg.rcMute, cfg.cmdMute)] ∧
      (wdtIn 246 (withRecord ⟨3, 0x05, 0x11, true⟩)).resetWithin 246 247 :=
  ⟨rfl, rfl, rfl, rfl, rfl, rfl, by decide, resetWithin_wdt (by decide +kernel)⟩

/-- A host's two frames. -/
theorem witness_ResetCutsFrame_host : frameOfBytes 0x01 0x80 = 0x01FE807F ∧
    (rstIn 246 (State.inWorld (at' .p1) (fun w => { w with hostCall := some (.nec32 0x01FE807F) }))).resetWithin 246 247 ∧
    (wdtIn 46 (State.inWorld (at' .p1) (fun w => { w with hostCall := some .transmitRepeat }))).resetWithin 46 47 :=
  ⟨by decide, resetWithin_rst (by decide +kernel), resetWithin_wdt (by decide +kernel)⟩

/-- The watchdog one half-period past its period. -/
theorem witness_HangResets :
    let s := State.inWorld (at' .p7) (fun w => { w with wdt := 1000, stall := 303001 })
    s.phase ≠ .busy ∧ s.world.hostCall = none ∧ s.world.calm = true ∧ s.world.wdt ≤ s.cfg.wdtPeriod ∧
      s.cfg.wdtPeriod < s.world.wdt + s.world.stall := by decide

/-- Collaborators that take the last half-period that the watchdog's period of 600 leaves: 2 x 242 + 3 + 76, and 37. -/
def budgeted : State :=
  State.inWorld { at' .p1 with cfg := { cfg with wdtPeriod := 600 } } (fun w =>
    { w with
      stall := 30
      pending := [{ serial := some (some 0x6E), stall := 7 }, { srcPin := some false }, {}, {}, {}, {}, { stall := 30 }] })

/-- Helper: the budget, from a closed computation. -/
theorem inBudget_of {s : State} (h : (s.cfg.frameShape && s.phase != .busy && s.world.unforced && s.world.fits s.cfg &&
    decide (s.world.wdt + (s.blockingLeft + (s.world.stalls.take s.phase.stepsToKick).sum) ≤ s.cfg.wdtPeriod)) = true) :
    s.InBudget := by
  simp only [Bool.and_eq_true, decide_eq_true_iff, bne_iff_ne] at h
  obtain ⟨⟨⟨⟨h1, h2⟩, h3⟩, h4⟩, h5⟩ := h
  exact ⟨h1, h2, h3, h4, h5⟩

/-- A host's call that just fits: 328 + 30 + 242. -/
def called : State :=
  State.inWorld budgeted (fun w => { w with wdt := 328, hostCall := some (.nec32 0x11EE609F) })

/-- Before step 1, right after the watchdog was serviced with the whole budget to be used, before step 4 with a timer that
fires, after a reset, and before a host's call. -/
theorem witness_WatchdogNeverFires : budgeted.InBudget ∧
    { budgeted with phase := .p2, world := { budgeted.world with pending := [{ stall := 7 }] } }.InBudget ∧
    { at' .p4 with offt := 1 }.InBudget ∧
    (budgeted.cfg.frameShape = true ∧ budgeted.world.hostCall = none ∧
      budgeted.world.pending.all Stimulus.unforced = true ∧ budgeted.world.fits budgeted.cfg = true) ∧
    called.phase = .p1 ∧ called.world.hostCall = some (.nec32 0x11EE609F) ∧ isNecFrame 0x11EE609F = true ∧
    { called with world := { called.world with hostCall := none } }.InBudget ∧
    called.slack (called.world.stall + called.cfg.longestCall) :=
  ⟨inBudget_of rfl, inBudget_of rfl, inBudget_of rfl, ⟨rfl, rfl, rfl, rfl⟩, rfl, rfl, rfl, inBudget_of rfl,
    by unfold State.slack; decide⟩

theorem witness_ClockedPulse : ∀ p ∈ [Phase.p3, .p4, .p5], (at' p).atRest = true ∧ (at' p).phase ∈ [Phase.p3, .p4, .p5] ∧
    (at' p).world.calm = true ∧ (at' p).world.pending = [] ∧ (at' p).cfg.relayHold ≠ 0 ∧
    (at' p).world.wdt + (at' p).cfg.relayHold.toNat ≤ (at' p).cfg.wdtPeriod := by decide

theorem witness_ClockedTransmit : ∀ p ∈ [Phase.p5, .p7], (at' p).atRest = true ∧ (at' p).phase ∈ [Phase.p5, .p7] ∧
    (at' p).cfg.frameShape = true ∧ (at' p).world.calm = true ∧ (at' p).world.pending = [] ∧
    (at' p).world.wdt + 121 * (at' p).cfg.hpPerUnit ≤ (at' p).cfg.wdtPeriod := by decide

end Sys2Proof.Tests
end

/-! PROOFS. The parameters of the built device (rules R6, R232, R242) and the state right after a reset (rule R27). -/

namespace Sys2Proof

/-! ### The parameters -/

section
variable (c : Config)

/-- Rule R232, each condition by itself. -/
theorem Config.legal_iff : c.legal = true ↔
    c.offDelayTicks ≠ 0 ∧ c.ledTicks ≠ 0 ∧ c.offDelayTicks.toNat < 2 ^ c.timerBits ∧
      c.ledTicks.toNat < 2 ^ c.timerBits ∧
      c.rcVolUp ≠ c.rcVolDown ∧ c.rcVolUp ≠ c.rcMute ∧ c.rcVolDown ≠ c.rcMute := by
  simp only [Config.legal, Bool.and_eq_true, bne_iff_ne, decide_eq_true_iff, and_assoc]

/-- The longest blocking time of an iteration under the decided durations (rule R178): two pulses and one frame, 2 x 7600 + 121 x 42
half-periods, outlast one pulse and two frames. -/
theorem Config.worstBlocking_of_decidedTiming (h : c.decidedTiming = true) : c.worstBlocking = 20282 := by
  simp only [Config.decidedTiming, Bool.and_eq_true, beq_iff_eq] at h
  obtain ⟨hcycles, hhold⟩ := h
  rw [Config.worstBlocking, c.hpPerUnit_eq, hcycles, hhold]
  rfl

end

@[simp] theorem Config.device_fCarrierHz : Config.device.fCarrierHz = 38000 := rfl
@[simp] theorem Config.device_tHalf : Config.device.tHalf = ⟨1, 76000⟩ := rfl
@[simp] theorem Config.device_tUnitNs : Config.device.tUnitNs = 562500 := rfl
@[simp] theorem Config.device_cyclesPerUnit : Config.device.cyclesPerUnit = 21 := rfl
@[simp] theorem Config.device_hpPerUnit : Config.device.hpPerUnit = 42 := rfl
@[simp] theorem Config.device_relayHold : Config.device.relayHold = 7600 := rfl
@[simp] theorem Config.device_ledTicks : Config.device.ledTicks = 5000 := rfl
@[simp] theorem Config.device_timerBits : Config.device.timerBits = 16 := rfl
@[simp] theorem Config.device_startBitsValid : Config.device.startBitsValid = 3 := rfl
@[simp] theorem Config.device_necAddr : Config.device.necAddr = 0x11 := rfl
@[simp] theorem Config.device_cmdMute : Config.device.cmdMute = 0x60 := rfl
@[simp] theorem Config.device_cmdVolUp : Config.device.cmdVolUp = 0x62 := rfl
@[simp] theorem Config.device_frameShape : Config.device.frameShape = true := rfl
@[simp] theorem Config.device_decidedTiming : Config.device.decidedTiming = true := rfl

/-- The built device meets rule R232: of the open parameters by the conditions that they carry, of the width of the timers
since `TIMER_BITS` is the width of their type. -/
@[simp] theorem Config.device_legal : Config.device.legal = true := by
  rw [Config.legal_iff]
  refine ⟨Config.openParams.offDelayTicks_ne, ?_, Config.device.offDelayTicks.isLt, Config.device.ledTicks.isLt,
    Config.openParams.rcVolUp_ne_rcVolDown, Config.openParams.rcVolUp_ne_rcMute, Config.openParams.rcVolDown_ne_rcMute⟩
  rw [Config.device_ledTicks]
  decide

/-- The watchdog's period of the built device leaves room for an iteration (rule R242). -/
theorem Config.device_wdtPeriod_gt :
    Config.device.worstBlocking + Config.device.iterPeriod < Config.device.wdtPeriod := by
  rw [Config.worstBlocking_of_decidedTiming _ Config.device_decidedTiming]
  exact Config.openParams.wdtPeriod_gt

end Sys2Proof

namespace Sys2Proof.Machine

/-! ### The state after a reset -/

section
variable (c : Config) (n : Nat) (w : World) (es : List Event) (now : Nat)

@[simp] theorem State.afterReset_cfg : (State.afterReset c n w es now).cfg = c := rfl
@[simp] theorem State.afterReset_ampPrev : (State.afterReset c n w es now).ampPrev = Config.freeAmpPrev n := rfl
@[simp] theorem State.afterReset_srcPrev : (State.afterReset c n w es now).srcPrev = Config.freeSrcPrev n := rfl
@[simp] theorem State.afterReset_offt : (State.afterReset c n w es now).offt = 0 := rfl
@[simp] theorem State.afterReset_ledt : (State.afterReset c n w es now).ledt = 0 := rfl
@[simp] theorem State.afterReset_irOut : (State.afterReset c n w es now).irOut = false := rfl
@[simp] theorem State.afterReset_relay : (State.afterReset c n w es now).relay = false := rfl
@[simp] theorem State.afterReset_led : (State.afterReset c n w es now).led = false := rfl
@[simp] theorem State.afterReset_phase : (State.afterReset c n w es now).phase = .p1 := rfl
@[simp] theorem State.afterReset_ret : (State.afterReset c n w es now).ret = .p3 := rfl
@[simp] theorem State.afterReset_sr : (State.afterReset c n w es now).sr = 0 := rfl
@[simp] theorem State.afterReset_bitcnt : (State.afterReset c n w es now).bitcnt = 0 := rfl
@[simp] theorem State.afterReset_unitcnt : (State.afterReset c n w es now).unitcnt = 0 := rfl
@[simp] theorem State.afterReset_cyccnt : (State.afterReset c n w es now).cyccnt = 0 := rfl
@[simp] theorem State.afterReset_half : (State.afterReset c n w es now).half = false := rfl
@[simp] theorem State.afterReset_mark : (State.afterReset c n w es now).mark = false := rfl
@[simp] theorem State.afterReset_rpt : (State.afterReset c n w es now).rpt = false := rfl
@[simp] theorem State.afterReset_txstate : (State.afterReset c n w es now).txstate = .idle := rfl
@[simp] theorem State.afterReset_holdcnt : (State.afterReset c n w es now).holdcnt = 0 := rfl
@[simp] theorem State.afterReset_serLat : (State.afterReset c n w es now).serLat = Config.freeSerLat n := rfl
@[simp] theorem State.afterReset_rcLat : (State.afterReset c n w es now).rcLat = Config.freeRcLat n := rfl
@[simp] theorem State.afterReset_trace : (State.afterReset c n w es now).trace = es := rfl
@[simp] theorem State.afterReset_decoder : (State.afterReset c n w es now).world.decoder = Decoder.initial := rfl
@[simp] theorem State.afterReset_wdt : (State.afterReset c n w es now).world.wdt = 0 := rfl

end

@[simp] theorem Decoder.initial_initialised : Decoder.initial.initialised = true := rfl
@[simp] theorem Decoder.initial_armed : Decoder.initial.armed = true := rfl
@[simp] theorem Decoder.initial_slot : Decoder.initial.slot = none := rfl

/-- Power-on is the reset number 0 of the built device, with nothing emitted yet. -/
theorem State.reset_eq_afterReset : State.reset = State.afterReset Config.device 0 worldAtPowerOn [] 0 := rfl

/-- Settles O53: power-on is a reset of the built device, so its parameters and the table of rule R27 give each value; the
condition of rule R242 is the one that needs an argument beside rule R232. -/
theorem resetState : Obligations.ResetState := by
  unfold Obligations.ResetState
  rw [State.reset_eq_afterReset]
  simp [Config.device_wdtPeriod_gt]

end Sys2Proof.Machine

/-! PROOFS. What the block's operations and the seven steps do, each said once: as one equation, or as the list of
the states that it can lead to. -/

namespace Sys2Proof.Machine

/-! ### The last sample -/

/-- The state with another level in the model's own field `sampled`, which no statement compares (log entry 6). -/
def State.withSampled (s : State) (b : Bool) : State := { s with sampled := b }

theorem State.sampleAmp_eq (s : State) : s.sampleAmp = s.withSampled s.ampSense := rfl

theorem State.sampleSrc_eq (s : State) : s.sampleSrc = s.withSampled s.srcSense := rfl

theorem State.advance_withSampled (s : State) (b : Bool) : (s.withSampled b).advance = s.advance.withSampled b := by
  unfold State.advance State.withSampled
  dsimp only
  split <;> rfl

/-! ### The start of a step -/

@[simp] theorem State.startStep_hostCall (s : State) : s.startStep.world.hostCall = s.world.hostCall := by
  unfold State.startStep; split <;> rfl

@[simp] theorem State.startStep_serial (s : State) : s.startStep.world.serial = s.world.serial := by
  unfold State.startStep; split <;> rfl

@[simp] theorem State.startStep_decoder (s : State) : s.startStep.world.decoder = s.world.decoder := by
  unfold State.startStep; split <;> rfl

/-! ### What statements compare -/

theorem Agrees.refl (s e : State) : Agrees s e e := ⟨rfl, .refl _⟩

/-- The level that the last sample returned is not compared. -/
theorem Agrees.withSampled (s e : State) (b : Bool) : Agrees s e (e.withSampled b) := ⟨rfl, .refl _⟩

theorem Agrees.advance_withSampled (s e : State) (b : Bool) : Agrees s e.advance (e.withSampled b).advance := by
  rw [State.advance_withSampled]
  exact .withSampled _ _ _

/-! ### What a frame leaves alone -/

section
variable (s : State) (f : Frame) (r : Bool) (us : List Sym)

@[simp] theorem State.sent_cfg : (s.sent f r us).cfg = s.cfg := rfl
@[simp] theorem State.sent_ampPrev : (s.sent f r us).ampPrev = s.ampPrev := rfl
@[simp] theorem State.sent_srcPrev : (s.sent f r us).srcPrev = s.srcPrev := rfl
@[simp] theorem State.sent_offt : (s.sent f r us).offt = s.offt := rfl
@[simp] theorem State.sent_ledt : (s.sent f r us).ledt = s.ledt := rfl
@[simp] theorem State.sent_led : (s.sent f r us).led = s.led := rfl
@[simp] theorem State.sent_phase : (s.sent f r us).phase = s.phase := rfl
@[simp] theorem State.sent_trace : (s.sent f r us).trace = s.trace ++ us.flatMap (unitEvents s.cfg) := rfl

end

/-! ### The relay and the off-delay -/

section
variable (s : State)

/-- `AMP_ON` run whole (rules R140, R145, R201). -/
theorem State.ampOn_whole : s.ampOn State.relayPulse =
    ((if s.ampSense then s.emits [.log .alreadyOn] else s.pulsed).setOfft 0).withSampled s.ampSense := by
  rw [State.ampOn_eq]
  cases h : s.ampSense <;> rw [State.sampleAmp_eq, h] <;> rfl

/-- `AMP_OFF` run whole (rules R141, R145, R201). -/
theorem State.ampOff_whole : s.ampOff State.relayPulse =
    ((if s.ampSense then s.pulsed else s.emits [.log .alreadyOff]).setOfft 0).withSampled s.ampSense := by
  rw [State.ampOff_eq]
  cases h : s.ampSense <;> rw [State.sampleAmp_eq, h] <;> rfl

/-- Step 2 (rule R162). -/
theorem State.step2_eq : s.step2 =
    ((s.emits (if s.ampSense = s.ampPrev then [] else [.log (.ampState s.ampSense)])).setAmpPrev s.ampSense).withSampled
      s.ampSense := by
  rw [State.step2, State.sampleAmp_eq]
  by_cases h : s.ampSense = s.ampPrev
  · simp [h, ampChange, State.withSampled, State.setAmpPrev]
  · simp [h, ampChange, State.withSampled, State.setAmpPrev, State.emits]

/-- It emits log entries only. -/
theorem State.step2_logs : ∃ es : List Event, (∀ e ∈ es, e.isLog = true) ∧
    s.step2 = ((s.emits es).setAmpPrev s.ampSense).withSampled s.ampSense := by
  refine ⟨_, ?_, s.step2_eq⟩
  split <;> simp [Event.isLog]

/-- Step 3 on a rising edge of the source (rule R163). -/
theorem State.step3_of_rise (hp : s.srcPrev = false) (hs : s.srcSense = true) :
    s.step3 Engine.whole = (s.ampOn State.relayPulse).setSrcPrev true := by
  rw [State.step3, State.sampleSrc_eq, hs]
  have he : (s.withSampled true).ampOn State.relayPulse = s.ampOn State.relayPulse := rfl
  simp [State.withSampled, hp, srcRise, ← he, Engine.whole]

/-- Step 3 on a falling edge of the source (rule R163). -/
theorem State.step3_of_fall (hp : s.srcPrev = true) (hs : s.srcSense = false) :
    s.step3 Engine.whole = ((s.setOfft s.cfg.offDelayTicks).setSrcPrev false).withSampled false := by
  rw [State.step3, State.sampleSrc_eq, hs]
  simp [State.withSampled, hp, srcRise, srcFall, State.ampOffDelay, State.setOfft, State.setSrcPrev]

/-- Step 3 without an edge (rule R163). -/
theorem State.step3_of_level (h : s.srcSense = s.srcPrev) :
    s.step3 Engine.whole = (s.setSrcPrev s.srcSense).withSampled s.srcSense := by
  rw [State.step3, State.sampleSrc_eq]
  cases hp : s.srcPrev <;> simp [State.withSampled, h, hp, srcRise, srcFall, State.setSrcPrev]

/-- The three cases of step 4 (rule R164). -/
theorem State.step4_eq : s.step4 Engine.whole =
    if s.offt = 0 then s else if s.offt = 1 then s.ampOff State.relayPulse else s.setOfft (s.offt - 1) := by
  simp only [State.step4, offtRunning, offtFires, bne_iff_ne, beq_iff_eq, ne_eq, ite_not]
  rfl

/-- The three cases of step 6 (rule R167). -/
theorem State.step6_eq : s.step6 =
    if s.ledt = 0 then s else if s.ledt = 1 then (s.setLedt 0).writeLed false else s.setLedt (s.ledt - 1) := by
  simp only [State.step6, ledtRunning, ledtEnds, bne_iff_ne, beq_iff_eq, ne_eq, ite_not, State.setLedt_ledt,
    sub_eq_zero]
  by_cases h1 : s.ledt = 1
  · rw [h1]; rfl
  · rw [if_neg h1, if_neg h1]

end

/-- What an operation on the off-delay and the relay can come to: log entries and a new value of `OFFT`, or one whole pulse that
leaves `OFFT` at 0 (rules R140, R141, R143, R164). -/
inductive AmpEffect (s : State) : State → Prop
  | quiet (es : List Event) (v : Timer) (b : Bool) (hes : ∀ e ∈ es, e.isLog = true)
      (hv : v ≤ s.offt ∨ v = s.cfg.offDelayTicks) : AmpEffect s (((s.emits es).setOfft v).withSampled b)
  | pulse (b : Bool) : AmpEffect s ((s.pulsed.setOfft 0).withSampled b)

namespace AmpEffect

variable (s : State)

theorem refl : AmpEffect s s := by
  have h := AmpEffect.quiet (s := s) [] s.offt s.sampled (by simp) (.inl (BitVec.le_refl _))
  rwa [State.emits_nil] at h

theorem setOfft {v : Timer} (b : Bool) (hv : v ≤ s.offt ∨ v = s.cfg.offDelayTicks) :
    AmpEffect s ((s.setOfft v).withSampled b) := by
  have h := AmpEffect.quiet (s := s) [] v b (by simp) hv
  rwa [State.emits_nil] at h

theorem log (e : LogEntry) (b : Bool) : AmpEffect s (((s.emits [.log e]).setOfft 0).withSampled b) :=
  .quiet _ _ _ (by simp [Event.isLog]) (.inl (Nat.zero_le _))

theorem ampOn : AmpEffect s (s.ampOn State.relayPulse) := by
  rw [State.ampOn_whole]
  cases s.ampSense
  · exact .pulse _
  · exact log s _ _

theorem ampOff : AmpEffect s (s.ampOff State.relayPulse) := by
  rw [State.ampOff_whole]
  cases s.ampSense
  · exact log s _ _
  · exact .pulse _

theorem ampOffDelay : AmpEffect s s.ampOffDelay := setOfft s s.sampled (.inr rfl)

theorem step4 : AmpEffect s (s.step4 Engine.whole) := by
  rw [State.step4_eq]
  split
  · exact refl s
  · split
    · exact ampOff s
    · exact setOfft (v := s.offt - 1) s s.sampled (.inl (by bv_omega))

/-- Step 3 is one such operation, and the sample remembered. -/
theorem step3 : ∃ u, AmpEffect s u ∧ s.step3 Engine.whole = u.setSrcPrev s.srcSense := by
  cases hp : s.srcPrev <;> cases hs : s.srcSense
  · exact ⟨_, setOfft s s.srcSense (.inl (BitVec.le_refl _)), by rw [State.step3_of_level s (hs.trans hp.symm), hs]; rfl⟩
  · exact ⟨_, ampOn s, State.step3_of_rise s hp hs⟩
  · exact ⟨_, setOfft s false (.inr rfl), State.step3_of_fall s hp hs⟩
  · exact ⟨_, setOfft s s.srcSense (.inl (BitVec.le_refl _)), by rw [State.step3_of_level s (hs.trans hp.symm), hs]; rfl⟩

end AmpEffect

/-! ### The dispatchers -/

/-- A frame, where it does not matter which (rule R111). -/
theorem State.transmit_eq_sent (s : State) (a k : Byte) : ∃ f us, s.transmit a k = s.sent f false us := by
  obtain ⟨us, hus⟩ := s.transmit_sends a k
  exact ⟨_, us, hus⟩

/-- A serial poll leads to an operation on the relay or the off-delay, or to one frame (rules R72, R165). -/
theorem State.dispatchSerial_cases (s : State) (p : Option Byte) :
    AmpEffect s (s.dispatchSerial Engine.whole p) ∨ ∃ k, s.dispatchSerial Engine.whole p = s.transmit s.cfg.necAddr k := by
  unfold State.dispatchSerial
  repeat' split
  · exact .inl (.ampOn s)
  · exact .inl (.ampOff s)
  · exact .inl (.ampOffDelay s)
  · exact .inr ⟨_, rfl⟩
  · exact .inr ⟨_, rfl⟩
  · exact .inr ⟨_, rfl⟩
  · exact .inl (.refl s)

/-- A record leads to a log entry alone, or, the LED lit and its window armed, to a log entry or to one frame (rules R169 to
R172). -/
theorem State.dispatchRecord_cases (s : State) (r : RcRecord) :
    (∃ e, s.dispatchRecord Engine.whole r = s.emits [.log e]) ∨
      (∃ e, s.dispatchRecord Engine.whole r = s.armLed.emits [.log e]) ∨
      ∃ k, s.dispatchRecord Engine.whole r = s.armLed.transmit s.cfg.necAddr k := by
  unfold State.dispatchRecord
  dsimp only
  repeat' split
  · exact .inl ⟨_, rfl⟩
  · exact .inr (.inr ⟨_, rfl⟩)
  · exact .inr (.inr ⟨_, rfl⟩)
  · exact .inr (.inr ⟨_, rfl⟩)
  · exact .inr (.inl ⟨_, rfl⟩)
  · exact .inl ⟨_, rfl⟩

/-- An ignored byte selects nothing (rule R81). -/
theorem State.dispatchSerial_of_not_command (s : State) (e : Engine) {b : Byte} (h : b ∉ serialCommandBytes) :
    s.dispatchSerial e (some b) = s := by
  simp_all [serialCommandBytes, State.dispatchSerial, pollIs]

theorem State.dispatchSerial_none (s : State) (e : Engine) : s.dispatchSerial e none = s := rfl

/-- The instruction that the decoder reads from a poll does what the dispatcher of step 5 does (rules R72, R165). -/
theorem exec_decodeSerial (p : Option Byte) (s : State) :
    exec (decodeSerial p) s = .next (s.dispatchSerial Engine.whole p) := by
  cases p with
  | none => rfl
  | some b =>
    rcases decodeSerial_cases b with ⟨hb, -⟩ | ⟨hb, hd⟩
    · simp only [serialCommandBytes, List.mem_cons, List.not_mem_nil, or_false] at hb
      rcases hb with rfl | rfl | rfl | rfl | rfl | rfl | rfl | rfl | rfl | rfl | rfl | rfl <;> rfl
    · rw [hd, State.dispatchSerial_of_not_command s _ hb]
      rfl

/-- The instruction that the decoder reads from a record does what the dispatcher of step 7 does (rules R74, R169 to R172). -/
theorem exec_decodeRecord (r : RcRecord) (s : State) :
    exec (decodeRecord s.cfg r) s = .next (s.dispatchRecord Engine.whole r) := by
  simp only [State.dispatchRecord, bne_iff_ne, beq_iff_eq]
  rcases decodeRecord_cases s.cfg r with ⟨hb, hi⟩ | ⟨hb, ha, hi⟩ |
    ⟨hb, ha, ⟨hu, hi⟩ | ⟨hu, hd, hi⟩ | ⟨hu, hd, hm, hi⟩ | ⟨hc, hi⟩⟩
  · rw [hi, if_pos hb]; rfl
  · rw [hi, if_neg (not_not.mpr hb), if_neg ha]; rfl
  · rw [hi, if_neg (not_not.mpr hb), if_pos ha, if_pos hu]; rfl
  · rw [hi, if_neg (not_not.mpr hb), if_pos ha, if_neg hu, if_pos hd]; rfl
  · rw [hi, if_neg (not_not.mpr hb), if_pos ha, if_neg hu, if_neg hd, if_pos hm]; rfl
  · simp only [Config.unmapped, Bool.and_eq_true, bne_iff_ne] at hc
    obtain ⟨⟨hu, hd⟩, hm⟩ := hc
    rw [hi, if_neg (not_not.mpr hb), if_pos ha, if_neg hu, if_neg hd, if_neg hm]; rfl

/-! ### The body of a step -/

/-- Where no host calls, what a step does with its wire is the step of the loop that `phase` names (rules R16, R160). -/
theorem State.stepBody_eq_phaseBody (s : State) (hb : s.phase ≠ .busy) (hc : s.phase = .p1 → s.world.hostCall = none) :
    s.stepBody = .next (s.phaseBody Engine.whole) := by
  have noWire (hf : s.fetch = none) : s.stepBody = .next (s.phaseBody Engine.whole) := by
    rw [State.stepBody, hf]
    exact congrArg _ (if_neg hb)
  cases hp : s.phase
  case p1 => exact noWire (by simp [State.fetch, hp, hc hp])
  case p2 | p3 | p4 | p6 => exact noWire (by simp [State.fetch, hp])
  case p5 =>
    have hf : s.fetch = some (.ser8 s.world.serial) := by simp [State.fetch, hp]
    have hi : s.issue = s.pollSerial := by simp [State.issue, hp]
    simp only [State.stepBody, hf, decode, exec_decodeSerial, hi, hp, State.phaseBody]
    rfl
  case p7 =>
    cases hr : s.world.decoder.report with
    | none => exact noWire (by simp [State.fetch, hp, hr])
    | some r =>
      have hf : s.fetch = some (.rcrec r) := by simp [State.fetch, hp, hr]
      have hi : s.issue = (s.takeRecord r).rearm := by simp [State.issue, hp, hr]
      have hx := exec_decodeRecord r (s.takeRecord r).rearm
      rw [State.rearm_cfg, State.takeRecord_cfg] at hx
      simp only [State.stepBody, hf, decode, hi, hx, hp, State.phaseBody, State.step7, hr]
      rfl
  case busy => exact absurd hp hb

/-- What a host's call does: one run of the generator or one frame (rules R50, R104, R118, decision D31). -/
theorem State.stepBody_of_hostCall {s t : State} {k : Call} (hp : s.phase = .p1) (hc : s.world.hostCall = some k)
    (h : s.stepBody = .next t) :
    (∃ m us, t = s.takeCall.played m us) ∨ ∃ f r us, t = s.takeCall.sent f r us := by
  have hf : s.fetch = some k.wire := by simp [State.fetch, hp, hc]
  have hi : s.issue = s.takeCall := by simp [State.issue, hp]
  have hr (u : State) : u.retire .p1 = u := if_pos rfl
  simp only [State.stepBody, hf, hi, hp] at h
  cases k with
  | nec32 f =>
    simp only [Call.wire, decode] at h
    rcases decodeFrame_cases f with ⟨-, hd⟩ | ⟨-, hd⟩ <;> rw [hd] at h
    · obtain ⟨us, hus⟩ := s.takeCall.transmit_sends (frameA f) (frameC f)
      exact .inr ⟨_, _, us, (Host.Outcome.next.inj h).symm.trans ((hr _).trans hus)⟩
    · cases h
  | transmitRepeat =>
    exact .inr ⟨_, _, _, (Host.Outcome.next.inj h).symm.trans ((hr _).trans s.takeCall.transmitRepeat_eq)⟩
  | burst1 n => exact .inl ⟨_, _, (Host.Outcome.next.inj h).symm.trans ((hr _).trans (s.takeCall.burst1_eq n))⟩
  | burst0 n => exact .inl ⟨_, _, (Host.Outcome.next.inj h).symm.trans ((hr _).trans (s.takeCall.burst0_eq n))⟩

/-- What the body of a step can be: a tick of the operation in progress, the step of the loop, or a host's call. -/
theorem State.stepBody_inv {s t : State} (h : s.stepBody = .next t) :
    s.phase = .busy ∧ t = s.clockTick ∨
      s.phase ≠ .busy ∧ (s.phase = .p1 → s.world.hostCall = none) ∧ t = s.phaseBody Engine.whole ∨
      s.phase = .p1 ∧ s.world.hostCall ≠ none ∧
        ((∃ m us, t = s.takeCall.played m us) ∨ ∃ f r us, t = s.takeCall.sent f r us) := by
  by_cases hb : s.phase = .busy
  · refine .inl ⟨hb, ?_⟩
    have hf : s.fetch = none := by simp [State.fetch, hb]
    rw [State.stepBody, hf] at h
    exact (Host.Outcome.next.inj h).symm.trans (if_pos hb)
  · by_cases hc : s.phase = .p1 → s.world.hostCall = none
    · refine .inr (.inl ⟨hb, hc, ?_⟩)
      rw [State.stepBody_eq_phaseBody s hb hc] at h
      exact (Host.Outcome.next.inj h).symm
    · obtain ⟨hp, hn⟩ := Classical.not_imp.mp hc
      obtain ⟨k, hk⟩ := Option.ne_none_iff_exists'.mp hn
      exact .inr (.inr ⟨hp, hn, State.stepBody_of_hostCall hp hk h⟩)

/-- Where no host calls, a step of the machine is the step of the loop under the reset rules, and the world moving on. -/
theorem step_eq_under (s : State) (hb : s.phase ≠ .busy) (hc : s.phase = .p1 → s.world.hostCall = none) :
    step s = .next (s.under (fun b => b.phaseBody Engine.whole)).advance := by
  have hbody := s.startStep.stepBody_eq_phaseBody (by rwa [State.startStep_phase])
    (by rw [State.startStep_phase, State.startStep_hostCall]; exact hc)
  unfold step State.under
  rw [hbody]
  split <;> rfl

end Sys2Proof.Machine

/-! PROOFS. The invariant of rule R28: what each operation and each step of the loop does to it, and that a reset establishes
it. -/

namespace Sys2Proof.Machine

theorem Phase.next_ne_busy {p : Phase} (h : p ≠ .busy) : p.next ≠ .busy := by
  cases p <;> simp_all [Phase.next]

theorem State.atRest_iff (s : State) : s.atRest = true ↔
    s.phase ≠ .busy ∧ s.txstate = .idle ∧ s.unitcnt = 0 ∧ s.bitcnt = 0 ∧ s.holdcnt = 0 := by
  simp only [State.atRest, Bool.and_eq_true, bne_iff_ne, beq_iff_eq, and_assoc]

namespace State.Inv

variable {s : State} (h : s.Inv)
include h

theorem legal : s.cfg.legal = true := h.1

theorem phase_ne_busy : s.phase ≠ .busy := by
  obtain ⟨-, hrest, -⟩ := h
  exact ((State.atRest_iff s).mp hrest).1

/-! ### The operations -/

theorem startStep : s.startStep.Inv := by
  unfold State.startStep
  split
  · exact h
  · exact h

theorem nextPhase : s.nextPhase.Inv := by
  obtain ⟨hlegal, hrest, hfields⟩ := h
  obtain ⟨hp, hcounters⟩ := (State.atRest_iff s).mp hrest
  exact ⟨hlegal, (State.atRest_iff _).mpr ⟨Phase.next_ne_busy hp, hcounters⟩, hfields⟩

/-- What the world brings leaves the decoder as it must be: it writes the mailbox only (rule R48). -/
theorem advance : s.advance.Inv := by
  obtain ⟨hlegal, hrest, hir, hrelay, hled, hofft, hledt, hinit, harmed⟩ := h
  unfold State.advance
  split
  · exact ⟨hlegal, hrest, hir, hrelay, hled, hofft, hledt, hinit, harmed⟩
  · refine ⟨hlegal, hrest, hir, hrelay, hled, hofft, hledt, ?_, ?_⟩ <;> simp [World.absorb, hinit, harmed]

/-- The generator leaves the pin low and its unit counter run out (rules R102, R107). -/
theorem played (m : Bool) (us : List Sym) : (s.played m us).Inv := by
  obtain ⟨hlegal, hrest, -, hfields⟩ := h
  obtain ⟨hp, htx, -, hcounters⟩ := (State.atRest_iff s).mp hrest
  exact ⟨hlegal, (State.atRest_iff _).mpr ⟨hp, htx, rfl, hcounters⟩, rfl, hfields⟩

/-- A frame leaves the transmitter idle, with no bit left to send (rules R111, R120). -/
theorem sent (f : Frame) (r : Bool) (us : List Sym) : (s.sent f r us).Inv := by
  obtain ⟨hlegal, hrest, -, hfields⟩ := h
  obtain ⟨hp, -, -, -, hhold⟩ := (State.atRest_iff s).mp hrest
  exact ⟨hlegal, (State.atRest_iff _).mpr ⟨hp, rfl, rfl, rfl, hhold⟩, rfl, hfields⟩

theorem transmit (a k : Byte) : (s.transmit a k).Inv := by
  obtain ⟨f, us, hus⟩ := s.transmit_eq_sent a k
  rw [hus]
  exact h.sent _ _ _

/-- A whole pulse leaves the coil released (rule R144), and no operation writes more than its constant into `OFFT`
(rule R13). -/
theorem ampEffect {t : State} (ht : AmpEffect s t) : t.Inv := by
  obtain ⟨hlegal, hrest, hir, hrelay, hled, hofft, hfields⟩ := h
  cases ht with
  | quiet es v b hes hv =>
    have hle : v ≤ s.cfg.offDelayTicks := hv.elim (fun hle => BitVec.le_trans hle hofft) (fun heq => heq ▸ BitVec.le_refl _)
    exact ⟨hlegal, hrest, hir, hrelay, hled, hle, hfields⟩
  | pulse b =>
    obtain ⟨hp, htx, hunit, hbit, -⟩ := (State.atRest_iff s).mp hrest
    exact ⟨hlegal, (State.atRest_iff _).mpr ⟨hp, htx, hunit, hbit, rfl⟩, hir, rfl, hled, Nat.zero_le _, hfields⟩

/-- The LED is lit with its whole window ahead (rule R170), which is not 0 (rule R232). -/
theorem armLed : s.armLed.Inv := by
  obtain ⟨hlegal, hrest, hir, hrelay, -, hofft, -, hdecoder⟩ := h
  obtain ⟨-, hticks, -⟩ := (Config.legal_iff _).mp hlegal
  exact ⟨hlegal, hrest, hir, hrelay, ⟨fun _ => hticks, fun _ => rfl⟩, hofft, BitVec.le_refl _, hdecoder⟩

/-- The re-arm follows the copy of a record at once (rule R48). -/
theorem takeRecord_rearm (r : RcRecord) : (s.takeRecord r).rearm.Inv := by
  obtain ⟨hlegal, hrest, hir, hrelay, hled, hofft, hledt, hinit, -⟩ := h
  exact ⟨hlegal, hrest, hir, hrelay, hled, hofft, hledt, hinit, rfl⟩

/-! ### The steps of the loop -/

theorem step2 : s.step2.Inv := by
  rw [State.step2_eq]
  exact h

theorem step3 : (s.step3 Engine.whole).Inv := by
  obtain ⟨u, hu, he⟩ := AmpEffect.step3 s
  have hi : u.Inv := h.ampEffect hu
  rw [he]
  exact hi

theorem step5 : (s.step5 Engine.whole).Inv := by
  have hp : s.pollSerial.Inv := h
  rcases s.pollSerial.dispatchSerial_cases s.pollSerial.serLat with ht | ⟨k, ht⟩
  · exact hp.ampEffect ht
  · exact (congrArg State.Inv ht).mpr (hp.transmit _ _)

/-- The LED goes off exactly when its window has run out (rule R167). -/
theorem step6 : s.step6.Inv := by
  have hs := h
  obtain ⟨hlegal, hrest, hir, hrelay, hled, hofft, hledt, hdecoder⟩ := h
  rw [State.step6_eq]
  split
  · exact hs
  · split
    · exact ⟨hlegal, hrest, hir, hrelay, by simp, hofft, Nat.zero_le _, hdecoder⟩
    · next hne0 hne1 =>
      have hlit : s.led = true ↔ s.ledt - 1 ≠ 0 := ⟨fun _ => sub_ne_zero.mpr hne1, fun _ => hled.mpr hne0⟩
      have hle : s.ledt - 1 ≤ s.ledt := by bv_omega
      exact ⟨hlegal, hrest, hir, hrelay, hlit, hofft, BitVec.le_trans hle hledt, hdecoder⟩

theorem step7 : (s.step7 Engine.whole).Inv := by
  unfold State.step7
  split
  · exact h
  · next r hr =>
    have ht := h.takeRecord_rearm r
    rcases State.dispatchRecord_cases (s.takeRecord r).rearm (s.takeRecord r).rearm.rcLat with ⟨e, he⟩ | ⟨e, he⟩ | ⟨k, he⟩
    · exact (congrArg State.Inv he).mpr ht
    · exact (congrArg State.Inv he).mpr ht.armLed
    · exact (congrArg State.Inv he).mpr (ht.armLed.transmit _ _)

theorem phaseBody : (s.phaseBody Engine.whole).Inv := by
  unfold State.phaseBody
  split
  · exact h.nextPhase
  · exact h.step2.nextPhase
  · exact h.step3.nextPhase
  · exact (h.ampEffect (.step4 s)).nextPhase
  · exact h.step5.nextPhase
  · exact h.step6.nextPhase
  · exact h.step7.nextPhase
  · exact h

/-- So does the body of a step, a host's call among them. -/
theorem stepBody {t : State} (ht : s.stepBody = .next t) : t.Inv := by
  have hcall : s.takeCall.Inv := h
  rcases State.stepBody_inv ht with ⟨hb, -⟩ | ⟨-, -, rfl⟩ | ⟨-, -, ⟨m, us, rfl⟩ | ⟨f, r, us, rfl⟩⟩
  · exact absurd hb h.phase_ne_busy
  · exact h.phaseBody
  · exact hcall.played m us
  · exact hcall.sent f r us

end State.Inv

/-! ### Reset -/

/-- A reset establishes the invariant in whatever state it finds the block (rules R27, R231). -/
theorem State.afterReset_inv {c : Config} (h : c.legal = true) (n : Nat) (w : World) (es : List Event) (now : Nat) :
    (State.afterReset c n w es now).Inv :=
  ⟨h, rfl, rfl, rfl, ⟨nofun, fun hne => absurd rfl hne⟩, Nat.zero_le _, Nat.zero_le _, rfl, rfl⟩

theorem State.enterReset_inv {s : State} (h : s.cfg.legal = true) : s.enterReset.Inv := State.afterReset_inv h _ _ _ _

/-- Settles O51: power-on is a reset of the built device, whose parameters are legal. -/
theorem resetHasInvariant : Obligations.ResetHasInvariant := State.afterReset_inv Config.device_legal _ _ _ _

/-! ### The parameters -/

theorem State.countTick_cfg (s : State) : s.countTick.cfg = s.cfg := by
  unfold State.countTick
  repeat' split
  all_goals rfl

theorem State.burstDone_cfg (s : State) : s.burstDone.cfg = s.cfg := by
  unfold State.burstDone
  repeat' split
  all_goals rfl

theorem State.burstTick_cfg (s : State) : s.burstTick.cfg = s.cfg := by
  have hcount := (((s.writeIr (s.mark && !s.half)).emits [.ir (s.mark && !s.half) 1]).wait 1).countTick_cfg
  unfold State.burstTick
  dsimp only
  split
  · exact (State.burstDone_cfg _).trans hcount
  · exact hcount

theorem State.holdTick_cfg (s : State) : s.holdTick.cfg = s.cfg := by
  unfold State.holdTick
  generalize ht : ((s.emits [.hold 1]).wait 1).countHold = t
  have hc : t.cfg = s.cfg := ht ▸ rfl
  dsimp only
  split
  · exact hc
  · exact hc

/-- No tick of the clocked machine writes a parameter. -/
theorem State.clockTick_cfg (s : State) : s.clockTick.cfg = s.cfg := by
  unfold State.clockTick
  repeat' split
  · exact s.holdTick_cfg
  · exact s.burstTick_cfg
  · exact s.burstDone_cfg

theorem State.stepBody_cfg {s t : State} (h : s.stepBody = .next t) : t.cfg = s.cfg := by
  rcases State.stepBody_inv h with ⟨-, rfl⟩ | ⟨-, -, rfl⟩ | ⟨-, -, ⟨m, us, rfl⟩ | ⟨f, r, us, rfl⟩⟩
  · exact s.clockTick_cfg
  · exact (Grows.phaseBody s Engine.whole_good).cfg
  · rfl
  · rfl

/-- A step comes to a reset, or its body ran to its end; the world moved on in both. -/
theorem step_inv {s t : State} (h : step s = .next t) :
    (∃ u : State, u.cfg = s.cfg ∧ s.resets ≤ u.resets ∧ t = u.enterReset.advance) ∨
      ∃ u, s.startStep.stepBody = .next u ∧ t = u.advance := by
  rcases step_cases h with ⟨-, rfl⟩ | ⟨-, u, hu, rfl⟩
  · exact .inl ⟨s, rfl, Nat.le_refl _, rfl⟩
  · have hc : u.cfg = s.cfg := (State.stepBody_cfg hu).trans s.startStep_cfg
    rcases s.conclude_cases u hc with he | ⟨-, v, he, hvc, hvr⟩
    · exact .inr ⟨u, hu, congrArg State.advance he⟩
    · exact .inl ⟨v, hvc, hvr.ge, congrArg State.advance he⟩

/-- A step that lost nothing to a reset is its body, run to its end. -/
theorem step_body_of_resets_eq {s t : State} (h : step s = .next t) (hr : t.resets = s.resets) :
    ∃ u, s.startStep.stepBody = .next u ∧ t = u.advance := by
  rcases step_inv h with ⟨u, -, hu, rfl⟩ | hbody
  · rw [State.advance_resets, State.enterReset_resets] at hr
    omega
  · exact hbody

/-- Settles O47: neither a reset nor the body of a step writes a parameter. -/
theorem parametersFixed : Obligations.ParametersFixed := by
  intro s t h
  rcases step_inv h with ⟨u, hc, -, rfl⟩ | ⟨u, hu, rfl⟩
  · rw [State.advance_cfg, State.enterReset_cfg, hc]
  · rw [State.advance_cfg, State.stepBody_cfg hu, State.startStep_cfg]

/-- Settles O50: a reset establishes the invariant, and every operation that a step runs whole keeps it. -/
theorem stepKeepsInvariant : Obligations.StepKeepsInvariant := by
  intro s t h hstep
  rcases step_inv hstep with ⟨u, hc, -, rfl⟩ | ⟨u, hu, rfl⟩
  · exact (State.enterReset_inv (hc ▸ h.legal)).advance
  · exact (h.startStep.stepBody hu).advance

end Sys2Proof.Machine

/-! PROOFS. One operation at a time: its result and what it leaves unchanged; and the reset that is due. -/

namespace Sys2Proof.Machine

/-- Settles O8: both bursts are the run of the generator that the statement writes out. -/
theorem burstResult : Obligations.BurstResult := by
  intro n s
  exact ⟨⟨s.burst1 n, rfl, .refl _ _⟩, ⟨s.burst0 n, rfl, .refl _ _⟩⟩

/-- Settles O18: a pulse is its events, its time, the coil released and the amplifier's answer. -/
theorem relayPulseResult : Obligations.RelayPulseResult := by
  intro s
  exact ⟨s.relayPulse, rfl, .refl _ _⟩

/-- Settles O19: each of the three bytes is `AMP_ON` run whole, by what the amplifier reads. -/
theorem ampOnResult : Obligations.AmpOnResult := by
  intro i s hi
  refine ⟨s.ampOn State.relayPulse, ?_, ?_⟩
  · rcases hi with rfl | rfl | rfl <;> rfl
  · rw [State.ampOn_whole]
    cases s.ampSense
    · exact .withSampled _ _ _
    · exact .withSampled _ _ _

/-- Settles O20: each of the three bytes is `AMP_OFF` run whole, by what the amplifier reads. -/
theorem ampOffResult : Obligations.AmpOffResult := by
  intro i s hi
  refine ⟨s.ampOff State.relayPulse, ?_, ?_⟩
  · rcases hi with rfl | rfl | rfl <;> rfl
  · rw [State.ampOff_whole]
    cases s.ampSense
    · exact .withSampled _ _ _
    · exact .withSampled _ _ _

/-- Settles O23: where the sample is the amplifier's power, the operation pulses exactly when the power is not yet the target,
and the pulse toggles it. -/
theorem ampReachesTarget : Obligations.AmpReachesTarget := by
  intro s hs
  have hpulse : s.pulsed.world.ampPower = !s.world.ampPower := rfl
  refine ⟨⟨s.ampOn State.relayPulse, rfl, ?_⟩, ⟨s.ampOff State.relayPulse, rfl, ?_⟩⟩
  · rw [State.ampOn_whole, hs]
    cases hp : s.world.ampPower
    · exact hpulse.trans (congrArg _ hp)
    · exact hp
  · rw [State.ampOff_whole, hs]
    cases hp : s.world.ampPower
    · exact hp
    · exact hpulse.trans (congrArg _ hp)

/-! ### A reset that is due -/

@[simp] theorem State.advance_wdt (s : State) : s.advance.world.wdt = s.world.wdt := by
  unfold State.advance; split <;> rfl

/-- The world fills the mailbox of an armed decoder, and leaves the decoder initialised and armed (rules R48, R231). -/
theorem State.advance_decoder (s : State) (h : s.world.decoder.armed = true) :
    s.advance.world.decoder.armed = true ∧ s.advance.world.decoder.initialised = s.world.decoder.initialised := by
  unfold State.advance
  split
  · exact ⟨h, rfl⟩
  · simp [World.absorb, h]

/-- What a reset forces off is no log event. -/
theorem State.observed_forcedOff (s : State) : observed s.forcedOff = s.forcedOff := by
  unfold State.forcedOff
  cases s.relay <;> cases s.led <;> rfl

/-- Settles O54: the step is the reset, and the world moving on touches nothing that the statement names. -/
theorem resetTaken : Obligations.ResetTaken := by
  intro s h
  obtain ⟨harmed, hinit⟩ := s.enterReset.advance_decoder rfl
  have hev : s.newEvents s.enterReset.advance = s.forcedOff :=
    State.newEvents_of_append _ _ _ ((State.advance_trace _).trans s.enterReset_trace)
  refine ⟨s.enterReset.advance, by simp [step, h], ?_⟩
  rw [hev, s.observed_forcedOff]
  simp only [State.advance_cfg, State.advance_ampPrev, State.advance_srcPrev, State.advance_serLat,
    State.advance_rcLat, State.advance_ret, State.advance_offt, State.advance_ledt, State.advance_irOut,
    State.advance_relay, State.advance_led, State.advance_phase, State.advance_sr, State.advance_bitcnt,
    State.advance_unitcnt, State.advance_cyccnt, State.advance_half, State.advance_mark, State.advance_rpt,
    State.advance_txstate, State.advance_holdcnt, State.advance_wdt, State.advance_resets, State.advance_trace]
  exact ⟨rfl, rfl, rfl, rfl, rfl, rfl, rfl, rfl, rfl, rfl, rfl, rfl, rfl, rfl, rfl, rfl, rfl, rfl, rfl, rfl, rfl,
    hinit, harmed, rfl, rfl, List.prefix_append _ _, rfl⟩

end Sys2Proof.Machine

/-! PROOFS. The order of the seven steps, the steps that write each register, and seven steps as one `ITERATE`. -/

namespace Sys2Proof.Machine

/-! ### Events of the operations -/

theorem pulses_append (es fs : List Event) : pulses (es ++ fs) = pulses es + pulses fs := List.countP_append

/-- Log entries make no pulse. -/
theorem pulses_of_log {es : List Event} (h : ∀ e ∈ es, e.isLog = true) : pulses es = 0 := by
  rw [pulses, List.countP_eq_zero]
  intro e he
  have := h e he
  cases e <;> simp_all [Event.isLog]

/-- Log entries do not drive the infrared pin. -/
theorem pinLevel_of_log {es : List Event} (h : ∀ e ∈ es, e.isLog = true) : pinLevel es = [] := by
  rw [pinLevel, List.flatMap_eq_nil_iff]
  intro e he
  have := h e he
  cases e <;> simp_all [Event.isLog, Event.pinLevels]

/-- Nor do they touch the LED. -/
theorem count_led_of_log {es : List Event} {b : Bool} (h : ∀ e ∈ es, e.isLog = true) : es.count (.led b) = 0 :=
  List.count_eq_zero.mpr fun hmem => Bool.false_ne_true (h _ hmem)

/-- Neither does a frame pulse the relay. -/
theorem pulses_units (c : Config) (us : List Sym) : pulses (us.flatMap (unitEvents c)) = 0 := by
  rw [pulses, List.countP_eq_zero]
  intro e he
  obtain ⟨b, n, rfl⟩ := mem_flatMap_unitEvents he
  simp

/-! ### Who writes -/

/-- What step `p` of the loop leaves alone on the way from `s` to `t`, and what its events `es` are not (rules R11 to R15, R171). -/
structure StepFrame (p : Phase) (s t : State) (es : List Event) : Prop where
  phase : t.phase = s.phase
  trace : t.trace = s.trace ++ es
  ampPrev : p ≠ .p2 → t.ampPrev = s.ampPrev
  srcPrev : p ≠ .p3 → t.srcPrev = s.srcPrev
  relay : p ≠ .p3 → p ≠ .p4 → p ≠ .p5 → t.offt = s.offt ∧ pulses es = 0
  led : p ≠ .p6 → p ≠ .p7 → t.ledt = s.ledt ∧ t.led = s.led
  ir : p ≠ .p5 → p ≠ .p7 → t.irOut = s.irOut ∧ pinLevel es = []

namespace StepFrame

/-- An operation on the relay and the off-delay, in any of the three steps that may call one. -/
theorem ampEffect {p : Phase} {s t : State} (h : AmpEffect s t) (hp : p = .p3 ∨ p = .p4 ∨ p = .p5) :
    ∃ es, StepFrame p s t es := by
  have hrelay {P : Prop} (h3 : p ≠ .p3) (h4 : p ≠ .p4) (h5 : p ≠ .p5) : P := absurd hp (by simp [h3, h4, h5])
  cases h with
  | quiet es v b hes hv =>
    exact ⟨es, rfl, rfl, fun _ => rfl, fun _ => rfl, hrelay, fun _ _ => ⟨rfl, rfl⟩, fun _ _ => ⟨rfl, pinLevel_of_log hes⟩⟩
  | pulse b =>
    exact ⟨pulseEvents s.cfg, rfl, rfl, fun _ => rfl, fun _ => rfl, hrelay, fun _ _ => ⟨rfl, rfl⟩, fun _ _ => ⟨rfl, rfl⟩⟩

variable (s : State)

theorem step1 : StepFrame .p1 s s.step1 [.wdtKick] :=
  ⟨rfl, rfl, fun _ => rfl, fun _ => rfl, fun _ _ _ => ⟨rfl, rfl⟩, fun _ _ => ⟨rfl, rfl⟩, fun _ _ => ⟨rfl, rfl⟩⟩

theorem step2 : ∃ es, StepFrame .p2 s s.step2 es := by
  obtain ⟨es, hlog, he⟩ := s.step2_logs
  rw [he]
  exact ⟨_, rfl, rfl, fun h => absurd rfl h, fun _ => rfl, fun _ _ _ => ⟨rfl, pulses_of_log hlog⟩, fun _ _ => ⟨rfl, rfl⟩,
    fun _ _ => ⟨rfl, pinLevel_of_log hlog⟩⟩

theorem step3 : ∃ es, StepFrame .p3 s (s.step3 Engine.whole) es := by
  obtain ⟨u, hu, he⟩ := AmpEffect.step3 s
  obtain ⟨es, h⟩ := ampEffect (p := .p3) hu (.inl rfl)
  rw [he]
  exact ⟨es, h.phase, h.trace, h.ampPrev, fun h => absurd rfl h, h.relay, h.led, h.ir⟩

theorem step4 : ∃ es, StepFrame .p4 s (s.step4 Engine.whole) es := ampEffect (.step4 s) (.inr (.inl rfl))

theorem step5 : ∃ es, StepFrame .p5 s (s.step5 Engine.whole) es := by
  rcases s.pollSerial.dispatchSerial_cases s.pollSerial.serLat with ht | ⟨k, ht⟩
  · obtain ⟨es, h⟩ := ampEffect (p := .p5) ht (.inr (.inr rfl))
    exact ⟨es, h.phase, h.trace, h.ampPrev, h.srcPrev, h.relay, h.led, h.ir⟩
  · obtain ⟨f, us, hus⟩ := s.pollSerial.transmit_eq_sent s.cfg.necAddr k
    rw [State.step5, ht.trans hus]
    exact ⟨_, rfl, rfl, fun _ => rfl, fun _ => rfl, fun _ _ h => absurd rfl h, fun _ _ => ⟨rfl, rfl⟩, fun h => absurd rfl h⟩

theorem step6 : ∃ es, StepFrame .p6 s s.step6 es := by
  have hled {P : Prop} (h : Phase.p6 ≠ .p6) : P := absurd rfl h
  rw [State.step6_eq]
  split
  · exact ⟨[], rfl, by simp, fun _ => rfl, fun _ => rfl, fun _ _ _ => ⟨rfl, rfl⟩, hled, fun _ _ => ⟨rfl, rfl⟩⟩
  · split
    · exact ⟨[.led false], rfl, rfl, fun _ => rfl, fun _ => rfl, fun _ _ _ => ⟨rfl, rfl⟩, hled, fun _ _ => ⟨rfl, rfl⟩⟩
    · exact ⟨[], rfl, by simp, fun _ => rfl, fun _ => rfl, fun _ _ _ => ⟨rfl, rfl⟩, hled, fun _ _ => ⟨rfl, rfl⟩⟩

theorem step7 : ∃ es, StepFrame .p7 s (s.step7 Engine.whole) es := by
  have h7 {P : Prop} (_ : Phase.p7 ≠ .p6) (h : Phase.p7 ≠ .p7) : P := absurd rfl h
  have h7' {P : Prop} (_ : Phase.p7 ≠ .p5) (h : Phase.p7 ≠ .p7) : P := absurd rfl h
  unfold State.step7
  split
  · exact ⟨[], rfl, by simp, fun _ => rfl, fun _ => rfl, fun _ _ _ => ⟨rfl, rfl⟩, h7, h7'⟩
  · next r hr =>
    have hcases := State.dispatchRecord_cases (s.takeRecord r).rearm (s.takeRecord r).rearm.rcLat
    dsimp only
    rcases hcases with ⟨e, he⟩ | ⟨e, he⟩ | ⟨k, he⟩
    · rw [he]
      exact ⟨[.rcRearm, .log e], rfl, by simp, fun _ => rfl, fun _ => rfl, fun _ _ _ => ⟨rfl, rfl⟩, h7, h7'⟩
    · rw [he]
      exact ⟨[.rcRearm, .led true, .log e], rfl, by simp, fun _ => rfl, fun _ => rfl, fun _ _ _ => ⟨rfl, rfl⟩, h7, h7'⟩
    · obtain ⟨f, us, hus⟩ := (s.takeRecord r).rearm.armLed.transmit_eq_sent s.cfg.necAddr k
      rw [he.trans hus]
      have htrace : ((s.takeRecord r).rearm.armLed.sent f false us).trace =
          s.trace ++ ([.rcRearm, .led true] ++ us.flatMap (unitEvents s.cfg)) := by simp
      have hpulses : pulses ([.rcRearm, .led true] ++ us.flatMap (unitEvents s.cfg)) = 0 := by
        rw [pulses_append, pulses_units]
        rfl
      exact ⟨_, by simp, htrace, fun _ => by simp, fun _ => by simp, fun _ _ _ => ⟨by simp, hpulses⟩, h7, h7'⟩

/-- Every step of the loop, by its phase, and the move to the next one (rule R16). -/
theorem phaseBody (hb : s.phase ≠ .busy) : ∃ u es, StepFrame s.phase s u es ∧ s.phaseBody Engine.whole = u.nextPhase := by
  cases hp : s.phase with
  | p1 => exact ⟨_, _, step1 s, by rw [State.phaseBody, hp]⟩
  | p2 => obtain ⟨es, h⟩ := step2 s; exact ⟨_, es, h, by rw [State.phaseBody, hp]⟩
  | p3 => obtain ⟨es, h⟩ := step3 s; exact ⟨_, es, h, by rw [State.phaseBody, hp]⟩
  | p4 => obtain ⟨es, h⟩ := step4 s; exact ⟨_, es, h, by rw [State.phaseBody, hp]⟩
  | p5 => obtain ⟨es, h⟩ := step5 s; exact ⟨_, es, h, by rw [State.phaseBody, hp]⟩
  | p6 => obtain ⟨es, h⟩ := step6 s; exact ⟨_, es, h, by rw [State.phaseBody, hp]⟩
  | p7 => obtain ⟨es, h⟩ := step7 s; exact ⟨_, es, h, by rw [State.phaseBody, hp]⟩
  | busy => exact absurd hp hb

end StepFrame

/-- Each step of the loop hands over to the next one. -/
theorem State.phaseBody_phase (s : State) (hb : s.phase ≠ .busy) : (s.phaseBody Engine.whole).phase = s.phase.next := by
  obtain ⟨u, es, hu, he⟩ := StepFrame.phaseBody s hb
  rw [he, State.nextPhase_phase, hu.phase]

/-- A step that neither a host's call nor a reset takes over is the step of the loop. -/
theorem step_eq_phaseBody {s t : State} (hb : s.phase ≠ .busy) (hc : s.phase = .p1 → s.world.hostCall = none)
    (h : step s = .next t) (hr : t.resets = s.resets) : t = (s.startStep.phaseBody Engine.whole).advance := by
  obtain ⟨u, hu, rfl⟩ := step_body_of_resets_eq h hr
  rw [State.stepBody_eq_phaseBody _ (by rwa [State.startStep_phase])
    (by rwa [State.startStep_phase, State.startStep_hostCall])] at hu
  rw [Host.Outcome.next.inj hu]

/-- Settles O30: the step of the loop hands over to the next one; a host's call leaves `phase` alone. -/
theorem phaseOrder : Obligations.PhaseOrder := by
  intro s t hb h hr
  obtain ⟨u, hu, rfl⟩ := step_body_of_resets_eq h hr
  rw [State.advance_phase]
  rcases State.stepBody_inv hu with ⟨hbusy, -⟩ | ⟨-, hc, rfl⟩ | ⟨hp, hc, ⟨m, us, rfl⟩ | ⟨f, r, us, rfl⟩⟩
  · exact absurd (s.startStep_phase.symm.trans hbusy) hb
  · rw [State.startStep_phase, State.startStep_hostCall] at hc
    rw [State.phaseBody_phase _ (by rwa [State.startStep_phase]), State.startStep_phase,
      if_neg (fun ⟨hp, hn⟩ => hn (hc hp))]
  all_goals
    rw [State.startStep_phase] at hp
    rw [State.startStep_hostCall] at hc
    rw [if_pos ⟨hp, hc⟩]
    exact (State.startStep_phase s).trans hp

/-- Settles O45: the frame of the step that ran, seen from the state before it. -/
theorem registerWriters : Obligations.RegisterWriters := by
  intro s t hb hc h hr
  obtain rfl := step_eq_phaseBody hb hc h hr
  obtain ⟨u, es, hu, he⟩ := StepFrame.phaseBody s.startStep (by rwa [State.startStep_phase])
  obtain ⟨-, htrace, hamp, hsrc, hrelay, hled, hir⟩ := hu
  rw [State.startStep_trace] at htrace
  have hev : s.newEvents (s.startStep.phaseBody Engine.whole).advance = es :=
    State.newEvents_of_append _ _ _ (by rw [State.advance_trace, he, State.nextPhase_trace, htrace])
  rw [hev, he]
  simp only [State.startStep_phase, State.startStep_ampPrev, State.startStep_srcPrev, State.startStep_offt,
    State.startStep_ledt, State.startStep_led, State.startStep_irOut] at hamp hsrc hrelay hled hir
  simp only [State.advance_ampPrev, State.advance_srcPrev, State.advance_offt, State.advance_ledt, State.advance_led,
    State.advance_irOut]
  exact ⟨hamp, hsrc, hrelay, hled, hir⟩

/-! ### Seven steps -/

/-- The steps of this iteration that are still to come. -/
def Phase.stepsLeft : Phase → Nat
  | .p1 => 7
  | .p2 => 6
  | .p3 => 5
  | .p4 => 4
  | .p5 => 3
  | .p6 => 2
  | .p7 => 1
  | .busy => 0

theorem Phase.stepsLeft_next {p : Phase} {n : Nat} (h : n + 2 ≤ p.stepsLeft) :
    p.next ≠ .p1 ∧ p.next ≠ .busy ∧ n + 1 ≤ p.next.stepsLeft := by
  cases p <;> simp_all [Phase.stepsLeft, Phase.next] <;> omega

theorem run_succ_of_step (M : Host.Core) {s t : M.State} (h : M.step s = .next t) (n : Nat) :
    M.run (n + 1) s = M.run n t := by
  rw [Host.Core.run, h]

theorem run_add_of_run (M : Host.Core) {s t : M.State} {m : Nat} (h : M.run m s = .next t) (n : Nat) :
    M.run (m + n) s = M.run n t := by
  induction m generalizing s with
  | zero =>
    cases h
    rw [Nat.zero_add]
  | succ m ih =>
    rw [Host.Core.run] at h
    split at h
    · rw [Nat.succ_add, run_succ_of_step M ‹_›, ih h]
    · cases h
    · cases h

theorem core_run_succ {s t : State} (h : step s = .next t) (n : Nat) :
    Sys2Proof.core.run (n + 1) s = Sys2Proof.core.run n t := run_succ_of_step Sys2Proof.core h n

theorem core_run_add {s t : State} {m : Nat} (h : Sys2Proof.core.run m s = .next t) (n : Nat) :
    Sys2Proof.core.run (m + n) s = Sys2Proof.core.run n t := run_add_of_run Sys2Proof.core h n

/-- Steps of the loop within one iteration are that many steps of the machine, if none is lost to a reset. -/
theorem run_eq_runPhases (n : Nat) (s : State) (hn : n + 1 ≤ s.phase.stepsLeft)
    (hc : s.phase = .p1 → s.world.hostCall = none) (hr : (State.runPhases (n + 1) s).resets = s.resets) :
    Sys2Proof.core.run (n + 1) s = .next (State.runPhases (n + 1) s).advance := by
  have hb : s.phase ≠ .busy := by
    intro h
    rw [h] at hn
    cases hn
  have hstep := step_eq_under s hb hc
  induction n generalizing s with
  | zero => exact (core_run_succ hstep 0)
  | succ n ih =>
    rw [core_run_succ hstep]
    by_cases hk : (s.under (fun b => b.phaseBody Engine.whole)).resets = s.resets
    · have hphase : (s.under (fun b => b.phaseBody Engine.whole)).advance.phase = s.phase.next := by
        rw [step_eq_phaseBody hb hc hstep (by rw [State.advance_resets, hk]), State.advance_phase,
          State.phaseBody_phase _ (by rwa [State.startStep_phase]), State.startStep_phase]
      have hrun : State.runPhases (n + 2) s =
          State.runPhases (n + 1) (s.under (fun b => b.phaseBody Engine.whole)).advance := if_pos hk
      obtain ⟨hp1, hbusy, hleft⟩ := Phase.stepsLeft_next hn
      rw [← hphase] at hp1 hbusy hleft
      rw [hrun] at hr ⊢
      exact ih _ hleft (fun h => absurd h hp1) (by rw [hr, State.advance_resets, hk]) hbusy
        (step_eq_under _ hbusy (fun h => absurd h hp1))
    · have hrun : State.runPhases (n + 2) s = s.under (fun b => b.phaseBody Engine.whole) := if_neg hk
      exact absurd (hrun ▸ hr) hk

/-- Settles O41: a pass that is lost to no reset is its seven steps. -/
theorem sevenStepsAreIterate : Obligations.SevenStepsAreIterate := by
  intro s t hp hc h hr
  have hs : s.setPhase .p1 = s := by rw [State.setPhase, ← hp]
  have ht : State.runPhases 7 s = t := by
    rw [← hs]
    exact Host.Outcome.next.inj h
  rw [← ht]
  exact run_eq_runPhases 6 s (by rw [hp]; exact Nat.le_refl _) (fun _ => hc) (by rw [ht, hr])

end Sys2Proof.Machine

/-! PROOFS. The frame: its bytes, its bits, its units (rules R75 to R77, R110 to R115). -/

namespace Sys2Proof.Machine

/-! ### Bytes and bits -/

theorem complement8_eq_not (v : Byte) : complement8 v = ~~~v := by
  unfold complement8
  bv_omega

/-- Where each byte stands in a frame (rule R75). -/
theorem frameOfBytes_getLsbD (a k : Byte) (i : Nat) : (frameOfBytes a k).getLsbD i =
    if i < 8 then (~~~k).getLsbD i else if i < 16 then k.getLsbD (i - 8)
    else if i < 24 then (~~~a).getLsbD (i - 16) else a.getLsbD (i - 24) := by
  have h16 (h : ¬ i < 8) : i - 8 < 8 ↔ i < 16 := by omega
  have h24 (h : ¬ i < 16) : i - 16 < 8 ↔ i < 24 := by omega
  unfold frameOfBytes
  rw [BitVec.getLsbD_append, BitVec.getLsbD_append, BitVec.getLsbD_append]
  by_cases h8 : i < 8
  · simp only [h8, if_true]
  · by_cases h : i < 16
    · simp only [h8, h16 h8, h, if_true, if_false]
    · simp only [h8, h16 h8, h, h24 h, if_false, Nat.sub_sub, Nat.reduceAdd]

/-- The frame built by shifts is the four bytes joined (rules R75, R76). -/
theorem necFrame_eq_frameOfBytes (a k : Byte) : necFrame a k = frameOfBytes a k := by
  apply BitVec.eq_of_getLsbD_eq
  intro i hi
  rw [frameOfBytes_getLsbD]
  have outside (b : Byte) {j : Nat} (hj : ¬ j < 8) : b.getLsbD j = false := BitVec.getLsbD_of_ge b j (by omega)
  have h8 (h : i < 8) : i < 16 ∧ i < 24 := by omega
  have h16 (h : i < 16) : i < 24 := by omega
  simp only [necFrame, complement8_eq_not, BitVec.zeroExtend, BitVec.getLsbD_or, BitVec.getLsbD_shiftLeft,
    BitVec.getLsbD_setWidth, hi]
  split_ifs with hk hnk hna
  · simp [hk, h8 hk]
  · simp [hk, hnk, h16 hnk, outside _ hk, show i - 8 < 32 by omega]
  · simp [hk, hnk, hna, outside _ hk, outside _ (show ¬ i - 8 < 8 by omega), show i - 16 < 32 by omega]
  · simp [hk, hnk, hna, outside _ hk, outside _ (show ¬ i - 8 < 8 by omega), outside _ (show ¬ i - 16 < 8 by omega),
      show i - 24 < 32 by omega]

/-- The bits of a byte in sending order (rule R44). -/
def byteBits (b : Byte) : List Bool := [7, 6, 5, 4, 3, 2, 1, 0].map b.getLsbD

/-- A frame is sent as its four bytes, each one bit 7 first (rules R44, R111). -/
theorem bitsMsbFirst_frameOfBytes (a k : Byte) :
    bitsMsbFirst (frameOfBytes a k) 32 = byteBits a ++ byteBits (~~~a) ++ byteBits k ++ byteBits (~~~k) := by
  simp only [bitsMsbFirst, frameOfBytes_getLsbD, Nat.reduceLT, Nat.reduceSub, if_true, if_false]
  rfl

theorem byteBits_not (b : Byte) : byteBits (~~~b) = (byteBits b).map not := by
  simp [byteBits]

/-- A byte and its complement have eight ones between them. -/
theorem count_byteBits_add_not (b : Byte) : (byteBits b).count true + (byteBits (~~~b)).count true = 8 := by
  have hnot : ((byteBits b).map not).count true = (byteBits b).count false :=
    List.count_map_of_injective (byteBits b) not Bool.not_injective false
  rw [byteBits_not, hnot]
  exact List.count_true_add_count_false _

/-! ### Units -/

/-- A 0 takes two units, a 1 takes four (rules R77, R113). -/
theorem slotUnits_of_frameShape {c : Config} (h : c.frameShape = true) :
    slotUnits c = fun b => if b then [.mark, .space, .space, .space] else [.mark, .space] := by
  obtain ⟨-, -, -, hmark, h0, h1, -⟩ := c.frameShape_iff.mp h
  funext b
  cases b <;> simp [slotUnits, hmark, h0, h1, List.replicate]

/-- The unit-level trace of a command frame under the frame shape of rule R6, from the four bytes (rules R77, R112, R113). -/
theorem commandUnits_of_frameShape {c : Config} (h : c.frameShape = true) (a k : Byte) :
    commandUnits c (necFrame a k) = List.replicate 16 .mark ++ List.replicate 8 .space ++
      (bitsMsbFirst (frameOfBytes a k) 32).flatMap
        (fun b => if b then [.mark, .space, .space, .space] else [.mark, .space]) ++ [.mark] := by
  obtain ⟨hlead, hspace, -, -, -, -, hend, hbits, -⟩ := c.frameShape_iff.mp h
  rw [commandUnits, slotUnits_of_frameShape h, necFrame_eq_frameOfBytes, hlead, hspace, hend, hbits]
  rfl

/-- Some slots take two units a bit, and two more for each 1. -/
theorem length_flatMap_slots (bits : List Bool) :
    (bits.flatMap (fun b => if b then [Sym.mark, .space, .space, .space] else [.mark, .space])).length =
      2 * bits.length + 2 * bits.count true := by
  induction bits with
  | nil => rfl
  | cons b bits ih =>
    rw [List.flatMap_cons, List.length_append, ih]
    cases b <;> simp <;> omega

/-- Every command frame has 121 units, since its bytes and their complements have 16 ones between them (rule R115). -/
theorem length_commandUnits {c : Config} (h : c.frameShape = true) (a k : Byte) :
    (commandUnits c (necFrame a k)).length = 121 := by
  have ha := count_byteBits_add_not a
  have hk := count_byteBits_add_not k
  have hbyte (b : Byte) : (byteBits b).length = 8 := rfl
  rw [commandUnits_of_frameShape h, bitsMsbFirst_frameOfBytes]
  simp only [List.length_append, length_flatMap_slots, List.length_replicate, List.count_append, hbyte, List.length_singleton]
  omega

/-- `TRANSMIT` under the frame shape of rule R6 (rules R111 to R115). -/
theorem State.transmit_of_frameShape {s : State} (h : s.cfg.frameShape = true) (a k : Byte) :
    s.transmit a k = s.sent 0 false (commandUnits s.cfg (necFrame a k)) := by
  obtain ⟨-, -, -, -, -, -, -, hbits, -⟩ := s.cfg.frameShape_iff.mp h
  have hshift : necFrame a k <<< s.cfg.frameBits.toNat = 0 := by
    rw [hbits]
    exact BitVec.shiftLeft_eq_zero (Nat.le_refl _)
  rw [State.transmit_eq s a k (s.cfg.bit0Space_le_of_frameShape h), hshift]

/-- Settles O11: the transmitter plays the units of the command frame, and 32 shifts leave nothing in `SR`. -/
theorem transmitResult : Obligations.TransmitResult := by
  intro a k s h
  refine ⟨s.transmit a k, rfl, ?_⟩
  rw [State.transmit_of_frameShape h, commandUnits_of_frameShape h]
  exact .refl _ _

end Sys2Proof.Machine

/-! PROOFS. Each step of the loop that no reset disturbs, as one equation. -/

namespace Sys2Proof.Machine

/-! ### Steps that nothing disturbs -/

section
variable {s : State} (e : Engine)

theorem State.phaseBody_p3 (h : s.phase = .p3) : s.phaseBody e = (s.step3 e).nextPhase := by rw [State.phaseBody, h]
theorem State.phaseBody_p4 (h : s.phase = .p4) : s.phaseBody e = (s.step4 e).nextPhase := by rw [State.phaseBody, h]
theorem State.phaseBody_p5 (h : s.phase = .p5) : s.phaseBody e = (s.step5 e).nextPhase := by rw [State.phaseBody, h]
theorem State.phaseBody_p6 (h : s.phase = .p6) : s.phaseBody e = s.step6.nextPhase := by rw [State.phaseBody, h]
theorem State.phaseBody_p7 (h : s.phase = .p7) : s.phaseBody e = (s.step7 e).nextPhase := by rw [State.phaseBody, h]

end

/-- A step that moves on from the step it was in. -/
theorem State.nextPhase_eq_setPhase {s : State} {p : Phase} (h : s.phase = p) : s.nextPhase = s.setPhase p.next := by
  rw [State.nextPhase, h]
  rfl

/-- A step of the loop that is not disturbed runs its body to the end, whatever wire it reads. -/
theorem step_of_undisturbed_body {s u : State} {n : Nat} (h : s.undisturbed n) (hb : s.phase ≠ .busy)
    (hc : s.phase = .p1 → s.world.hostCall = none) (hu : s.startStep.phaseBody Engine.whole = u)
    (hcalm : u.world.calm = true) : step s = .next u.advance := by
  subst hu
  rw [step_eq_under s hb hc, State.under_of_calm h.1 hcalm]

section
variable (s : State) (r : RcRecord) (es : List Event) (n : Nat)

theorem State.pollSerial_calm : s.pollSerial.world.calm = s.world.calm := rfl
theorem State.takeRecord_rearm_calm : (s.takeRecord r).rearm.world.calm = s.world.calm := rfl
theorem State.armLed_calm : s.armLed.world.calm = s.world.calm := rfl
theorem State.emits_calm : (s.emits es).world.calm = s.world.calm := rfl
theorem State.setPhase_calm (p : Phase) : (s.setPhase p).world.calm = s.world.calm := rfl
@[simp] theorem State.pollSerial_slack : s.pollSerial.slack n ↔ s.slack n := Iff.rfl
@[simp] theorem State.takeRecord_rearm_slack : (s.takeRecord r).rearm.slack n ↔ s.slack n := Iff.rfl
@[simp] theorem State.armLed_slack : s.armLed.slack n ↔ s.slack n := Iff.rfl

end

theorem State.slack_mono {s : State} {m n : Nat} (h : s.slack n) (hmn : m ≤ n) : s.slack m := by
  unfold State.slack at h ⊢
  omega

/-- A pulse is the longest thing that an operation on the relay and the off-delay can do. -/
theorem AmpEffect.calm {s t : State} (h : AmpEffect s t) (hc : s.world.calm = true)
    (hs : s.slack s.cfg.relayHold.toNat) : t.world.calm = true := by
  cases h with
  | quiet => exact hc
  | pulse => exact State.wait_calm hc hs

theorem State.sent_calm {s : State} {us : List Sym} (hc : s.world.calm = true) (hs : s.slack (us.length * s.cfg.hpPerUnit))
    (f : Frame) (r : Bool) : (s.sent f r us).world.calm = true := State.wait_calm hc hs

theorem State.transmit_calm {s : State} (hf : s.cfg.frameShape = true) (hc : s.world.calm = true)
    (hs : s.slack (121 * s.cfg.hpPerUnit)) (a k : Byte) : (s.transmit a k).world.calm = true := by
  rw [State.transmit_of_frameShape hf]
  exact State.sent_calm hc (by rwa [length_commandUnits hf]) _ _

/-- One less, as the statements write it. -/
theorem Timer.sub_one_eq {v : Timer} (h : v ≠ 0) : v - 1 = BitVec.ofNat 16 (v.toNat - 1) := by
  bv_omega

/-- Step 3, by the two edges of the source (rules R140, R143, R163). -/
theorem State.step3_eq (s : State) : ∃ b, s.step3 Engine.whole =
    ((if s.srcPrev = false ∧ s.srcSense = true then
        (if s.ampSense then (s.emits [.log .alreadyOn]).setOfft 0 else s.pulsed.setOfft 0)
      else if s.srcPrev = true ∧ s.srcSense = false then s.setOfft s.cfg.offDelayTicks
      else s).setSrcPrev s.srcSense).withSampled b := by
  cases hprev : s.srcPrev <;> cases hsense : s.srcSense
  · exact ⟨_, by rw [State.step3_of_level s (hsense.trans hprev.symm), hsense]; rfl⟩
  · rw [State.step3_of_rise s hprev hsense, State.ampOn_whole]
    cases s.ampSense <;> exact ⟨_, rfl⟩
  · exact ⟨_, State.step3_of_fall s hprev hsense⟩
  · exact ⟨_, by rw [State.step3_of_level s (hsense.trans hprev.symm), hsense]; rfl⟩

/-- Settles O33: the body is step 3, which pulses at most once. -/
theorem step3Edges : Obligations.Step3Edges := by
  intro s hp h
  obtain ⟨hcalm, hslack⟩ := State.startStep_calm h
  have hp' : s.startStep.phase = .p3 := s.startStep_phase.trans hp
  obtain ⟨u, hu, he⟩ := AmpEffect.step3 s.startStep
  obtain ⟨es, hframe⟩ := StepFrame.step3 s.startStep
  have hcalm3 : (s.startStep.step3 Engine.whole).world.calm = true := by
    rw [he]
    exact hu.calm hcalm (by rwa [State.startStep_cfg])
  have hbody := (State.phaseBody_p3 Engine.whole hp').trans (State.nextPhase_eq_setPhase (hframe.phase.trans hp'))
  refine ⟨_, step_of_undisturbed_body h (by simp [hp]) (by simp [hp]) hbody hcalm3, ?_⟩
  obtain ⟨b, hb⟩ := s.startStep.step3_eq
  simp only [State.startStep_srcPrev, State.startStep_srcSense, State.startStep_ampSense, State.startStep_cfg] at hb
  rw [hb, ← s.startStep_trace]
  exact .advance_withSampled s _ b

/-- Settles O34: the body is step 4, which pulses at most once. -/
theorem step4Countdown : Obligations.Step4Countdown := by
  intro s hp h
  obtain ⟨hcalm, hslack⟩ := State.startStep_calm h
  have hp' : s.startStep.phase = .p4 := s.startStep_phase.trans hp
  obtain ⟨es, hframe⟩ := StepFrame.step4 s.startStep
  have hcalm4 : (s.startStep.step4 Engine.whole).world.calm = true :=
    (AmpEffect.step4 s.startStep).calm hcalm (by rwa [State.startStep_cfg])
  have hbody := (State.phaseBody_p4 Engine.whole hp').trans (State.nextPhase_eq_setPhase (hframe.phase.trans hp'))
  refine ⟨_, step_of_undisturbed_body h (by simp [hp]) (by simp [hp]) hbody hcalm4, ?_⟩
  rw [State.step4_eq, s.startStep_offt, ← s.startStep_trace]
  split
  · exact .refl _ _
  · split
    · rw [State.ampOff_whole, s.startStep_ampSense]
      split
      · exact .advance_withSampled s _ s.ampSense
      · exact .advance_withSampled s _ s.ampSense
    · rw [Timer.sub_one_eq ‹_›]
      exact .refl _ _

/-- Step 6 is about the LED alone. -/
theorem State.step6_world (s : State) : s.step6.world = s.world := by
  rw [State.step6_eq]
  split
  · rfl
  · split <;> rfl

/-- Settles O36: the body is step 6, which takes no time. -/
theorem step6Window : Obligations.Step6Window := by
  intro s hp h
  obtain ⟨hcalm, -⟩ := State.startStep_calm h
  have hp' : s.startStep.phase = .p6 := s.startStep_phase.trans hp
  obtain ⟨es, hframe⟩ := StepFrame.step6 s.startStep
  have hcalm6 : s.startStep.step6.world.calm = true := by rwa [State.step6_world]
  have hbody := (State.phaseBody_p6 Engine.whole hp').trans (State.nextPhase_eq_setPhase (hframe.phase.trans hp'))
  refine ⟨_, step_of_undisturbed_body h (by simp [hp]) (by simp [hp]) hbody hcalm6, ?_⟩
  rw [State.step6_eq, s.startStep_ledt, ← s.startStep_trace]
  split
  · exact .refl _ _
  · split
    · exact .refl _ _
    · rw [Timer.sub_one_eq ‹_›]
      exact .refl _ _

/-! ### Step 5 -/

/-- The poll of step 5, as the statements write it. -/
theorem State.pollSerial_startStep (s : State) : s.startStep.pollSerial =
    { s.startStep with serLat := s.world.serial, world := { s.startStep.world with serial := none } } := by
  rw [State.pollSerial, State.startStep_serial]

/-- A serial command blocks for one pulse or one frame at most (rules R142, R165). -/
theorem State.dispatchSerial_calm {s : State} (hf : s.cfg.frameShape = true) (hc : s.world.calm = true)
    (hs : s.slack s.cfg.longestCall) (p : Option Byte) : (s.dispatchSerial Engine.whole p).world.calm = true := by
  rcases s.dispatchSerial_cases p with ht | ⟨k, ht⟩
  · exact ht.calm hc (State.slack_mono hs (Nat.le_max_left _ _))
  · rw [ht]
    exact State.transmit_calm hf hc (State.slack_mono hs (Nat.le_max_right _ _)) _ _

/-- Settles O35: the decoded byte does what the dispatcher of step 5 does. -/
theorem step5Polls : Obligations.Step5Polls := by
  intro s hp hf h
  obtain ⟨hcalm, hslack⟩ := State.startStep_calm h
  have hp' : s.startStep.phase = .p5 := s.startStep_phase.trans hp
  obtain ⟨es, hframe⟩ := StepFrame.step5 s.startStep
  have hstep5 : s.startStep.step5 Engine.whole = s.startStep.pollSerial.dispatchSerial Engine.whole s.world.serial := by
    rw [State.step5, State.pollSerial_serLat, s.startStep_serial]
  have hcalm5 : (s.startStep.step5 Engine.whole).world.calm = true := by
    rw [hstep5]
    exact State.dispatchSerial_calm (by simpa using hf) ((State.pollSerial_calm _).trans hcalm) (by simpa using hslack) _
  have hbody := (State.phaseBody_p5 Engine.whole hp').trans (State.nextPhase_eq_setPhase (hframe.phase.trans hp'))
  rw [← s.pollSerial_startStep]
  refine ⟨_, _, exec_decodeSerial _ _, step_of_undisturbed_body h (by simp [hp]) (by simp [hp]) hbody hcalm5, ?_⟩
  rw [hstep5]
  exact .refl _ _

/-! ### Step 7 -/

/-- Step 7 with a record: copied, the decoder re-armed, and dispatched (rule R168). -/
theorem State.step7_of_report {s : State} {r : RcRecord} (e : Engine) (h : s.world.decoder.report = some r) :
    s.step7 e = (s.takeRecord r).rearm.dispatchRecord e r := by
  rw [State.step7, h]
  rfl

theorem State.step7_of_no_report {s : State} (e : Engine) (h : s.world.decoder.report = none) : s.step7 e = s := by
  rw [State.step7, h]

/-- A malformed record is logged (rules R169, R200). -/
theorem State.dispatchRecord_of_malformed {s : State} {r : RcRecord} (e : Engine) (h : r.startbits ≠ s.cfg.startBitsValid) :
    s.dispatchRecord e r = s.emits [.log (.malformed r.startbits)] := by
  rw [State.dispatchRecord, if_pos (bne_iff_ne.mpr h)]
  rfl

/-- A record for another address is logged (rule R172). -/
theorem State.dispatchRecord_of_other {s : State} {r : RcRecord} (e : Engine) (h : r.startbits = s.cfg.startBitsValid)
    (ha : r.addr ≠ s.cfg.remoteAddr) : s.dispatchRecord e r = s.emits [.log (.rcOtherAddr r.addr r.cmd)] := by
  simp [State.dispatchRecord, h, ha]

/-- A record copied and the decoder re-armed after the time of the collaborators, as the statements write it. -/
theorem State.takeRecord_rearm_startStep (s : State) (r : RcRecord) : (s.startStep.takeRecord r).rearm =
    { s.startStep with
      rcLat := r, trace := s.trace ++ [.rcRearm]
      world := { s.startStep.world with decoder := { s.world.decoder with armed := true, slot := none } } } := by
  rw [← s.startStep_trace, ← s.startStep_decoder]
  rfl

/-- Acting on a record takes a frame's time at most (rules R169 to R172). -/
theorem State.dispatchRecord_calm {s : State} (hf : s.cfg.frameShape = true) (hc : s.world.calm = true)
    (hs : s.slack (121 * s.cfg.hpPerUnit)) (r : RcRecord) : (s.dispatchRecord Engine.whole r).world.calm = true := by
  rcases s.dispatchRecord_cases r with ⟨e, he⟩ | ⟨e, he⟩ | ⟨k, he⟩ <;> rw [he]
  · exact hc
  · exact hc
  · exact State.transmit_calm (by simpa using hf) ((State.armLed_calm s).trans hc) (by simpa using hs) _ _

/-- Acting on a record does not re-arm the decoder. -/
theorem State.dispatchRecord_trace (s : State) (r : RcRecord) :
    ∃ es, (s.dispatchRecord Engine.whole r).trace = s.trace ++ es ∧ .rcRearm ∉ es := by
  rcases s.dispatchRecord_cases r with ⟨e, he⟩ | ⟨e, he⟩ | ⟨k, he⟩ <;> rw [he]
  · exact ⟨[.log e], by simp, by simp⟩
  · exact ⟨[.led true, .log e], by simp, by simp⟩
  · obtain ⟨f, us, hus⟩ := s.armLed.transmit_eq_sent s.cfg.necAddr k
    refine ⟨.led true :: us.flatMap (unitEvents s.cfg), by simp [hus], fun hmem => ?_⟩
    rcases List.mem_cons.mp hmem with heq | hunit
    · cases heq
    · obtain ⟨b, n, heq⟩ := mem_flatMap_unitEvents hunit
      cases heq

/-- The last step of an iteration that reports a record. -/
theorem State.phaseBody_of_report {s : State} {r : RcRecord} (hp : s.phase = .p7) (hr : s.world.decoder.report = some r) :
    s.startStep.phaseBody Engine.whole =
      ((s.startStep.takeRecord r).rearm.dispatchRecord Engine.whole r).setPhase .p1 := by
  have hp' : s.startStep.phase = .p7 := s.startStep_phase.trans hp
  obtain ⟨es, hframe⟩ := StepFrame.step7 s.startStep
  rw [State.phaseBody_p7 _ hp', State.nextPhase_eq_setPhase (hframe.phase.trans hp'),
    State.step7_of_report _ (by rwa [State.startStep_decoder])]
  rfl

/-- A record that is logged and no more: the step of `MalformedRecord` and `OtherAddressRecord`. -/
theorem step7_of_logged {s : State} {r : RcRecord} {e : LogEntry} (hp : s.phase = .p7) (h : s.undisturbed 0)
    (hr : s.world.decoder.report = some r)
    (hd : (s.startStep.takeRecord r).rearm.dispatchRecord Engine.whole r =
      (s.startStep.takeRecord r).rearm.emits [.log e]) :
    step s = .next (((s.startStep.takeRecord r).rearm.emits [.log e]).setPhase .p1).advance := by
  obtain ⟨hcalm, -⟩ := State.startStep_calm h
  refine step_of_undisturbed_body h (by simp [hp]) (by simp [hp]) ?_ ?_
  · rw [State.phaseBody_of_report hp hr, hd]
  · rwa [State.setPhase_calm, State.emits_calm, State.takeRecord_rearm_calm]

/-- That state, as the statements write it. -/
theorem State.logged_startStep (s : State) (r : RcRecord) (e : LogEntry) :
    ((s.startStep.takeRecord r).rearm.emits [.log e]).setPhase .p1 =
      { s.startStep with
        phase := .p1, rcLat := r, trace := s.trace ++ [.rcRearm, .log e]
        world := { s.startStep.world with decoder := { s.world.decoder with armed := true, slot := none } } } := by
  rw [State.takeRecord_rearm_startStep]
  simp [State.emits, State.setPhase]

/-- Settles O38: the condition is raised on the start bits alone. -/
theorem malformedRecord : Obligations.MalformedRecord := by
  intro s r hp h hr hb
  refine ⟨_, step7_of_logged hp h hr (State.dispatchRecord_of_malformed _ (by simpa using hb)), ?_⟩
  rw [State.logged_startStep]
  exact .refl _ _

/-- Settles O39: the start bits are right, and the address decides. -/
theorem otherAddressRecord : Obligations.OtherAddressRecord := by
  intro s r hp h hr hb ha
  refine ⟨_, step7_of_logged hp h hr (State.dispatchRecord_of_other _ (by simpa using hb) (by simpa using ha)), ?_⟩
  rw [State.logged_startStep]
  exact .refl _ _

/-- Settles O37: without a record step 7 is nothing; with one, the copy and the one re-arm come before the dispatch. -/
theorem step7PollsAndRearms : Obligations.Step7PollsAndRearms := by
  intro s hp hf h
  obtain ⟨hcalm, hslack⟩ := State.startStep_calm h
  refine ⟨fun hr => ?_, fun r hr => ?_⟩
  · have hp' : s.startStep.phase = .p7 := s.startStep_phase.trans hp
    have hbody : s.startStep.phaseBody Engine.whole = s.startStep.setPhase .p1 := by
      rw [State.phaseBody_p7 _ hp', State.step7_of_no_report _ (by rwa [State.startStep_decoder])]
      exact State.nextPhase_eq_setPhase hp'
    exact ⟨_, step_of_undisturbed_body h (by simp [hp]) (by simp [hp]) hbody hcalm, .refl _ _⟩
  · have hcfg : (s.startStep.takeRecord r).rearm.cfg = s.cfg := s.startStep_cfg
    have hexec := exec_decodeRecord r (s.startStep.takeRecord r).rearm
    have hcalm7 := State.dispatchRecord_calm (s := (s.startStep.takeRecord r).rearm) (by simpa using hf)
      ((State.takeRecord_rearm_calm _ r).trans hcalm) (by simpa using hslack) r
    obtain ⟨es, htrace, hrearm⟩ := (s.startStep.takeRecord r).rearm.dispatchRecord_trace r
    rw [← s.takeRecord_rearm_startStep r]
    rw [hcfg] at hexec
    refine ⟨_, _, hexec, step_of_undisturbed_body h (by simp [hp]) (by simp [hp]) (State.phaseBody_of_report hp hr) hcalm7,
      .refl _ _, ?_⟩
    rw [State.newEvents_of_append s _ (.rcRearm :: es) (by simp [htrace]), List.count_cons_self,
      List.count_eq_zero.mpr hrearm]

end Sys2Proof.Machine

/-! PROOFS. The clocked relay pulse, one tick a half-period, against the pulse that runs whole (rules R16, R17, R142). -/

namespace Sys2Proof.Machine

/-! ### Half-period steps -/

theorem halfPeriodSteps_append (es fs : List Event) :
    halfPeriodSteps (es ++ fs) = halfPeriodSteps es ++ halfPeriodSteps fs := List.flatMap_append

/-- `k` half-periods held one by one are one hold of `k`. -/
theorem halfPeriodSteps_replicate_hold (k : Nat) :
    halfPeriodSteps (List.replicate k (.hold 1)) = halfPeriodSteps [.hold k] := by
  induction k with
  | zero => rfl
  | succ k ih =>
    rw [List.replicate_succ, ← List.singleton_append, halfPeriodSteps_append, ih]
    simp [halfPeriodSteps, Event.steps, List.replicate_succ]

/-! ### The hold -/

/-- `holdcnt <- v` (rule R17). -/
def State.setHold (s : State) (v : HoldCount) : State := { s with holdcnt := v }

/-- The clocked pulse after `k` half-periods of its hold. -/
def State.heldFor (s : State) (k : Nat) : State :=
  ((s.startPulse.emits (List.replicate k (.hold 1))).wait k).setHold (s.cfg.relayHold - BitVec.ofNat 13 k)

theorem State.setHold_countHold (s : State) (v : HoldCount) (es : List Event) (n : Nat) :
    (((s.setHold v).emits es).wait n).countHold = ((s.emits es).wait n).setHold (v - 1) := rfl

section
variable {s : State}

theorem State.heldFor_zero : s.heldFor 0 = s.startPulse := by
  simp [State.heldFor, State.setHold, State.startPulse, State.holdRelay]

theorem State.heldFor_calm {k : Nat} (hc : s.world.calm = true) (hs : s.slack k) : (s.heldFor k).world.calm = true :=
  State.wait_calm (s := s) hc hs

theorem State.endHold_resume_calm (s : State) : s.endHold.resume.world.calm = s.world.calm := rfl

/-- The counter is out exactly at the end of the hold. -/
theorem State.heldFor_holdcnt_eq_zero_iff {k : Nat} (hk : k ≤ s.cfg.relayHold.toNat) :
    (s.heldFor k).holdcnt = 0 ↔ k = s.cfg.relayHold.toNat := by
  show s.cfg.relayHold - BitVec.ofNat 13 k = 0 ↔ _
  rw [sub_eq_zero, ← BitVec.toNat_inj, BitVec.toNat_ofNat, Nat.mod_eq_of_lt (by omega), eq_comm]

/-- One tick of the hold, up to what it does when the counter is out. -/
theorem State.heldFor_succ (k : Nat) : (((s.heldFor k).emits [.hold 1]).wait 1).countHold = s.heldFor (k + 1) := by
  have hcount : s.cfg.relayHold - BitVec.ofNat 13 k - 1 = s.cfg.relayHold - BitVec.ofNat 13 (k + 1) := by bv_omega
  rw [State.heldFor, State.setHold_countHold, State.wait_emits, State.emits_emits, State.wait_wait, hcount,
    ← List.replicate_succ', State.heldFor]

/-- A tick before the last one only counts. -/
theorem State.clockTick_heldFor {k : Nat} (hk : k + 1 < s.cfg.relayHold.toNat) :
    (s.heldFor k).clockTick = s.heldFor (k + 1) := by
  have hne : (s.heldFor k).holdcnt ≠ 0 := by
    rw [ne_eq, State.heldFor_holdcnt_eq_zero_iff (by omega)]
    omega
  have hne' : (s.heldFor (k + 1)).holdcnt ≠ 0 := by
    rw [ne_eq, State.heldFor_holdcnt_eq_zero_iff (by omega)]
    omega
  rw [State.clockTick, if_pos hne, State.holdTick, State.heldFor_succ]
  exact if_neg hne'

/-- The last tick releases the coil and resumes the loop (rule R142). -/
theorem State.clockTick_heldFor_last {k : Nat} (hk : k + 1 = s.cfg.relayHold.toNat) :
    (s.heldFor k).clockTick = (s.heldFor (k + 1)).endHold.resume := by
  have hne : (s.heldFor k).holdcnt ≠ 0 := by
    rw [ne_eq, State.heldFor_holdcnt_eq_zero_iff (by omega)]
    omega
  rw [State.clockTick, if_pos hne, State.holdTick, State.heldFor_succ]
  exact if_pos ((State.heldFor_holdcnt_eq_zero_iff (by omega)).mpr hk)

/-- The ticks before the last one, one after the other. -/
theorem State.clockRun_startPulse {k : Nat} (hk : k < s.cfg.relayHold.toNat) (hc : s.world.calm = true)
    (hp : s.world.pending = []) (hs : s.slack k) : State.clockRun k s.startPulse = s.heldFor k := by
  induction k with
  | zero => exact State.heldFor_zero.symm
  | succ k ih =>
    have hs' : s.slack k := State.slack_mono hs (by omega)
    have htick := State.clockTick_heldFor hk
    rw [State.clockRun_add, ih (by omega) hs']
    refine (State.clockStep_of_busy rfl (State.heldFor_calm hc hs') ?_ ?_).trans htick
    · rw [htick]
      exact State.heldFor_calm hc hs
    · rw [htick]
      exact hp

/-- The whole clocked pulse. -/
theorem State.clockRun_whole_pulse (hh : s.cfg.relayHold ≠ 0) (hc : s.world.calm = true) (hp : s.world.pending = [])
    (hs : s.slack s.cfg.relayHold.toNat) :
    State.clockRun s.cfg.relayHold.toNat s.startPulse = (s.heldFor s.cfg.relayHold.toNat).endHold.resume := by
  have hpos : s.cfg.relayHold.toNat ≠ 0 := fun h => hh (BitVec.toNat_inj.mp h)
  obtain ⟨k, hk⟩ := Nat.exists_eq_add_one_of_ne_zero hpos
  have htick := State.clockTick_heldFor_last (s := s) hk.symm
  rw [hk] at hs ⊢
  have hs' : s.slack k := State.slack_mono hs (by omega)
  rw [State.clockRun_add, State.clockRun_startPulse (by omega) hc hp hs']
  refine (State.clockStep_of_busy rfl (State.heldFor_calm hc hs') ?_ ?_).trans htick
  · rw [htick]
    exact (State.endHold_resume_calm _).trans (State.heldFor_calm hc hs)
  · rw [htick]
    exact hp

end

/-- `ret` leads back to the step that called the pulse (rule R16). -/
theorem Phase.toRet_phase {p : Phase} (h : p ∈ [Phase.p3, .p4, .p5]) (old : Ret) : (p.toRet old).phase = p := by
  simp only [List.mem_cons, List.not_mem_nil, or_false] at h
  rcases h with rfl | rfl | rfl <;> rfl

/-- Settles O59: by induction over the ticks the clocked hold counts down, and its last tick leaves what the whole pulse
leaves. -/
theorem clockedPulse : Obligations.ClockedPulse := by
  intro s _ hphase hc hp hh hs
  have hret := congrArg Phase.next (Phase.toRet_phase hphase s.ret)
  have hcount : s.cfg.relayHold - BitVec.ofNat 13 s.cfg.relayHold.toNat = 0 := by simp
  refine ⟨s.pulsed, rfl, ?_, ?_⟩
  all_goals rw [State.clockRun_whole_pulse hh hc hp hs]
  · rw [← hret, State.heldFor, hcount]
    simp [State.untraced, State.resume, State.endHold, State.setHold, State.startPulse, State.holdRelay, State.emits,
      State.wait, State.pulsed]
  · have htrace : (s.heldFor s.cfg.relayHold.toNat).endHold.resume.trace =
        s.trace ++ [.relay true] ++ List.replicate s.cfg.relayHold.toNat (.hold 1) ++ [.relay false] := by
      simp [State.resume, State.endHold, State.heldFor, State.setHold, State.startPulse, State.holdRelay, State.emits,
        State.wait]
    have hpulsed : s.pulsed.trace = s.trace ++ [.relay true] ++ [.hold s.cfg.relayHold.toNat] ++ [.relay false] := by
      simp [State.pulsed, pulseEvents]
    rw [htrace, hpulsed]
    simp only [halfPeriodSteps_append, halfPeriodSteps_replicate_hold]

end Sys2Proof.Machine

/-! PROOFS. The timers over many iterations, in a world that stays as it is (rules R164, R167). -/

namespace Sys2Proof.Machine

/-! ### The quiet loop -/

/-- The loop has nothing to do but its countdowns: the world is still, the source's rail is as last sampled, no byte and no record
wait, and the watchdog leaves room for an iteration. -/
structure Quiet (s : State) : Prop where
  still : s.world.still = true
  source : s.srcSense = s.srcPrev
  serial : s.world.serial = none
  record : s.world.decoder.report = none
  room : s.cfg.worstBlocking + s.cfg.iterPeriod ≤ s.cfg.wdtPeriod

/-- What the block can see of the world, the time and the amplifier's real power left out. -/
def World.shown (w : World) : World := { w with wdt := 0, wdtTrip := none, ampPower := false }

theorem World.still_iff (w : World) :
    w.still = true ↔ w.calm = true ∧ w.stall = 0 ∧ w.hostCall = none ∧ w.pending = [] := by
  simp [World.still, and_assoc]

/-- A sample is of what the world shows. -/
theorem State.ampSense_of_shown {s t : State} (hc : t.cfg = s.cfg) (hw : t.world.shown = s.world.shown) :
    t.ampSense = s.ampSense := by
  have hpin : t.world.ampPin = s.world.ampPin :=
    show t.world.shown.ampPin = s.world.shown.ampPin from congrArg _ hw
  rw [State.ampSense, State.ampSense, hc, hpin]

namespace Quiet

variable {s : State} (h : Quiet s)
include h

theorem of_shown {t : State} (hcalm : t.world.calm = true) (hc : t.cfg = s.cfg) (hp : t.srcPrev = s.srcPrev)
    (hw : t.world.shown = s.world.shown) : Quiet t := by
  obtain ⟨hstill, hsource, hserial, hrecord, hroom⟩ := h
  obtain ⟨-, hstall, hcall, hpending⟩ := (World.still_iff _).mp hstill
  have hsrc : t.world.srcPin = s.world.srcPin :=
    show t.world.shown.srcPin = s.world.shown.srcPin from congrArg _ hw
  have hdecoder : t.world.decoder = s.world.decoder :=
    show t.world.shown.decoder = s.world.shown.decoder from congrArg _ hw
  refine ⟨(World.still_iff _).mpr ⟨hcalm, ?_, ?_, ?_⟩, ?_, ?_, hdecoder ▸ hrecord, hc ▸ hroom⟩
  · exact (congrArg World.stall hw).trans hstall
  · exact (congrArg World.hostCall hw).trans hcall
  · exact (congrArg World.pending hw).trans hpending
  · rw [State.srcSense, hc, hsrc, hp]
    exact hsource
  · exact (congrArg World.serial hw).trans hserial

theorem calm : s.world.calm = true := ((World.still_iff _).mp h.still).1

/-- The time of a quiet step's start is the loop's own. -/
theorem startStep_eq (hb : s.phase ≠ .busy) : s.startStep = s.wait s.loopTime := by
  obtain ⟨-, hstall, -, -⟩ := (World.still_iff _).mp h.still
  rw [State.startStep, if_neg hb, hstall, Nat.zero_add, ← hstall]

/-- A quiet step that stays within the watchdog's period runs its body to the end, and nothing moves after it. -/
theorem step_eq {u : State} (hb : s.phase ≠ .busy) (hu : (s.wait s.loopTime).phaseBody Engine.whole = u)
    (hcalm : u.world.calm = true) : step s = .next u := by
  subst hu
  obtain ⟨hc, -, hcall, hpending⟩ := (World.still_iff _).mp h.still
  rw [← h.startStep_eq hb] at hcalm ⊢
  have hgrows := Grows.phaseBody s.startStep Engine.whole_good
  have hnone : (s.startStep.phaseBody Engine.whole).world.pending = [] := by
    rw [hgrows.pending, h.startStep_eq hb]
    exact hpending
  rw [step_eq_under s hb (fun _ => hcall), State.under_of_calm hc hcalm, State.advance_of_pending_nil _ hnone]

end Quiet

/-! ### Counting down -/

/-- A timer that held `v` has run out within `k` counts. -/
def ranOut (v : Timer) (k : Nat) : Bool := v != 0 && decide (v.toNat ≤ k)

theorem ranOut_zero (v : Timer) : ranOut v 0 = false := by
  rw [ranOut, Bool.and_eq_false_imp]
  intro hv
  simpa [Nat.pos_iff_ne_zero, ← BitVec.toNat_inj] using hv

theorem ranOut_of_ne_zero {v : Timer} (h : v ≠ 0) (k : Nat) : ranOut v k = decide (v.toNat ≤ k) := by
  rw [ranOut, bne_iff_ne.mpr h, Bool.true_and]

theorem ranOut_one (v : Timer) : ranOut v 1 = (v == 1) := by
  rw [Bool.eq_iff_iff]
  simp only [ranOut, Bool.and_eq_true, bne_iff_ne, decide_eq_true_iff, beq_iff_eq]
  bv_omega

/-- It runs out once: within the first counts, or within those that follow. -/
theorem ranOut_add {v w : Timer} {m : Nat} (n : Nat) (h : w.toNat = v.toNat - m) :
    ranOut v (m + n) = (ranOut v m || ranOut w n) ∧ (ranOut v m && ranOut w n) = false := by
  rw [Bool.eq_iff_iff]
  simp only [ranOut, Bool.or_eq_true, Bool.and_eq_true, Bool.and_eq_false_iff, bne_iff_ne, bne_eq_false_iff_eq,
    decide_eq_true_iff, decide_eq_false_iff_not]
  bv_omega

/-- From the quiet state `s` the loop came to `t` by `m` steps 4 and `n` steps 6 and emitted `es`: what is left of the two timers,
and what their ends have brought (rules R164, R167). -/
structure CountsDown (s t : State) (es : List Event) (m n : Nat) : Prop where
  quiet : Quiet t
  cfg : t.cfg = s.cfg
  amp : t.ampSense = s.ampSense
  offt : t.offt.toNat = s.offt.toNat - m
  ledt : t.ledt.toNat = s.ledt.toNat - n
  led : t.led = (s.led && !ranOut s.ledt n)
  trace : t.trace = s.trace ++ es
  pulses : pulses es = (ranOut s.offt m && s.ampSense).toNat
  redundant : ranOut s.offt m = true → s.ampSense = false → .alreadyOff ∈ logged es
  ledOff : es.count (.led false) = (ranOut s.ledt n).toNat

namespace CountsDown

theorem trans {s t u : State} {es fs : List Event} {m n m' n' : Nat} (h : CountsDown s t es m n)
    (h' : CountsDown t u fs m' n') : CountsDown s u (es ++ fs) (m + m') (n + n') := by
  obtain ⟨hofft, honce⟩ := ranOut_add m' h.offt
  obtain ⟨hledt, honce'⟩ := ranOut_add n' h.ledt
  refine ⟨h'.quiet, h'.cfg.trans h.cfg, h'.amp.trans h.amp, ?_, ?_, ?_, ?_, ?_, ?_, ?_⟩
  · rw [h'.offt, h.offt, Nat.sub_sub]
  · rw [h'.ledt, h.ledt, Nat.sub_sub]
  · rw [h'.led, h.led, hledt, Bool.not_or, Bool.and_assoc]
  · rw [h'.trace, h.trace, List.append_assoc]
  · rw [pulses_append, h.pulses, h'.pulses, h.amp, hofft]
    revert honce
    cases ranOut s.offt m <;> cases ranOut t.offt m' <;> cases s.ampSense <;> simp
  · intro hout hamp
    rw [logged_append, List.mem_append]
    rw [hofft, Bool.or_eq_true] at hout
    exact hout.imp (fun hm => h.redundant hm hamp) (fun hm => h'.redundant hm (h.amp.trans hamp))
  · rw [List.count_append, h.ledOff, h'.ledOff, hledt]
    revert honce'
    cases ranOut s.ledt n <;> cases ranOut t.ledt n' <;> simp

/-- No count at all. -/
theorem neutral {s t : State} {es : List Event} (h : Quiet t) (hc : t.cfg = s.cfg) (ha : t.ampSense = s.ampSense)
    (hofft : t.offt = s.offt) (hledt : t.ledt = s.ledt) (hled : t.led = s.led) (htrace : t.trace = s.trace ++ es)
    (hp : Machine.pulses es = 0) (hl : es.count (.led false) = 0) : CountsDown s t es 0 0 where
  quiet := h
  cfg := hc
  amp := ha
  offt := by rw [hofft, Nat.sub_zero]
  ledt := by rw [hledt, Nat.sub_zero]
  led := by rw [hled, ranOut_zero]; simp
  trace := htrace
  pulses := by rw [hp, ranOut_zero]; rfl
  redundant := by simp [ranOut_zero]
  ledOff := by rw [hl, ranOut_zero]; rfl

end CountsDown

/-! ### One count of each timer -/

/-- Neither the time nor the amplifier's answer is anything that the block can see. -/
theorem AmpEffect.shown {s t : State} (h : AmpEffect s t) : t.world.shown = s.world.shown := by
  cases h <;> rfl

/-- Step 4 is one count of the off-delay, and its end is the one call of `AMP_OFF` (rules R141, R164). -/
theorem State.step4_counts (s : State) : ∃ es, (s.step4 Engine.whole).trace = s.trace ++ es ∧
    (s.step4 Engine.whole).offt.toNat = s.offt.toNat - 1 ∧ pulses es = (ranOut s.offt 1 && s.ampSense).toNat ∧
      (ranOut s.offt 1 = true → s.ampSense = false → .alreadyOff ∈ logged es) ∧ es.count (.led false) = 0 := by
  rw [State.step4_eq, ranOut_one]
  by_cases h0 : s.offt = 0
  · rw [if_pos h0]
    exact ⟨[], by simp [h0, pulses]⟩
  · rw [if_neg h0]
    by_cases h1 : s.offt = 1
    · rw [if_pos h1, State.ampOff_whole, h1]
      cases s.ampSense
      · exact ⟨[.log .alreadyOff], rfl, rfl, rfl, by simp [logged], rfl⟩
      · exact ⟨pulseEvents s.cfg, rfl, rfl, rfl, nofun, rfl⟩
    · rw [if_neg h1, beq_eq_false_iff_ne.mpr h1]
      have hsub : (s.offt - 1).toNat = s.offt.toNat - 1 := by bv_omega
      exact ⟨[], (List.append_nil _).symm, hsub, rfl, nofun, rfl⟩

/-- Step 6 is one count of the LED's window, and its end turns the LED off (rule R167). -/
theorem State.step6_counts (s : State) : ∃ es, s.step6.trace = s.trace ++ es ∧
    s.step6.ledt.toNat = s.ledt.toNat - 1 ∧ s.step6.led = (s.led && !ranOut s.ledt 1) ∧ pulses es = 0 ∧
      es.count (.led false) = (ranOut s.ledt 1).toNat := by
  rw [State.step6_eq, ranOut_one]
  by_cases h0 : s.ledt = 0
  · rw [if_pos h0]
    exact ⟨[], by simp [h0, pulses]⟩
  · rw [if_neg h0]
    by_cases h1 : s.ledt = 1
    · rw [if_pos h1, h1]
      exact ⟨[.led false], rfl, rfl, (Bool.and_false _).symm, rfl, rfl⟩
    · rw [if_neg h1, beq_eq_false_iff_ne.mpr h1]
      have hsub : (s.ledt - 1).toNat = s.ledt.toNat - 1 := by bv_omega
      exact ⟨[], (List.append_nil _).symm, hsub, (Bool.and_true _).symm, rfl, rfl⟩

/-! ### The seven steps of a quiet iteration -/

theorem State.loopTime_of_ne_p2 {s : State} (h : s.phase ≠ .p2) : s.loopTime = 0 := if_neg h

namespace Quiet

variable {s : State} (h : Quiet s)
include h

/-- But for step 2, to which the loop's own time is charged, a quiet step starts at once. -/
theorem step_eq_phaseBody {u : State} (hb : s.phase ≠ .busy) (hp2 : s.phase ≠ .p2)
    (hu : s.phaseBody Engine.whole = u) (hcalm : u.world.calm = true) : step s = .next u :=
  h.step_eq hb (by rw [State.loopTime_of_ne_p2 hp2, State.wait_zero, hu]) hcalm

theorem relayHold_le : s.cfg.iterPeriod + s.cfg.relayHold.toNat ≤ s.cfg.wdtPeriod := by
  have hroom := h.room
  have hworst : 2 * s.cfg.relayHold.toNat + 121 * s.cfg.hpPerUnit ≤ s.cfg.worstBlocking := Nat.le_max_left _ _
  omega

/-- Step 1 services the watchdog. -/
theorem step1 (hp : s.phase = .p1) :
    ∃ t es, step s = .next t ∧ t.phase = .p2 ∧ CountsDown s t es 0 0 ∧ t.world.wdt = 0 := by
  have hu : s.phaseBody Engine.whole = s.kick.setPhase .p2 := by
    rw [State.phaseBody, hp]
    exact State.nextPhase_eq_setPhase (s := s.kick) hp
  have hcalm : (s.kick.setPhase .p2).world.calm = true := h.calm
  exact ⟨_, _, h.step_eq_phaseBody (by simp [hp]) (by simp [hp]) hu hcalm, rfl,
    .neutral (h.of_shown hcalm rfl rfl rfl) rfl rfl rfl rfl rfl rfl rfl rfl, rfl⟩

/-- Step 2 takes the loop's own time and may log the amplifier's level. -/
theorem step2 (hp : s.phase = .p2) (hw : s.world.wdt = 0) :
    ∃ t es, step s = .next t ∧ t.phase = .p3 ∧ CountsDown s t es 0 0 ∧ t.world.wdt = t.cfg.iterPeriod := by
  have hroom := h.relayHold_le
  have htime : s.loopTime = s.cfg.iterPeriod := if_pos hp
  obtain ⟨es, hlog, hstep2⟩ := (s.wait s.cfg.iterPeriod).step2_logs
  have hu : (s.wait s.loopTime).phaseBody Engine.whole = (s.wait s.cfg.iterPeriod).step2.setPhase .p3 := by
    rw [htime, State.phaseBody, State.wait_phase, hp, hstep2]
    exact State.nextPhase_eq_setPhase (s := (((s.wait s.cfg.iterPeriod).emits es).setAmpPrev _).withSampled _) hp
  have hcalm : ((s.wait s.cfg.iterPeriod).step2.setPhase .p3).world.calm = true := by
    rw [hstep2]
    exact State.wait_calm h.calm (by unfold State.slack; omega)
  have hwdt : ((s.wait s.cfg.iterPeriod).step2.setPhase .p3).world.wdt = s.cfg.iterPeriod := by
    rw [hstep2]
    exact (congrArg (· + _) hw).trans (Nat.zero_add _)
  rw [hstep2] at hu hcalm hwdt
  exact ⟨_, es, h.step_eq (by simp [hp]) hu hcalm, rfl,
    .neutral (h.of_shown hcalm rfl rfl rfl) rfl rfl rfl rfl rfl rfl (pulses_of_log hlog) (count_led_of_log hlog), hwdt⟩

/-- Step 3 sees no edge. -/
theorem step3 (hp : s.phase = .p3) :
    ∃ t es, step s = .next t ∧ t.phase = .p4 ∧ CountsDown s t es 0 0 ∧ t.world.wdt = s.world.wdt := by
  have hsrc : s.step3 Engine.whole = (s.setSrcPrev s.srcSense).withSampled s.srcSense := State.step3_of_level s h.source
  have hu : s.phaseBody Engine.whole = ((s.setSrcPrev s.srcSense).withSampled s.srcSense).setPhase .p4 := by
    rw [State.phaseBody_p3 _ hp, hsrc]
    exact State.nextPhase_eq_setPhase (s := (s.setSrcPrev s.srcSense).withSampled s.srcSense) hp
  have hcalm : (((s.setSrcPrev s.srcSense).withSampled s.srcSense).setPhase .p4).world.calm = true := h.calm
  exact ⟨_, [], h.step_eq_phaseBody (by simp [hp]) (by simp [hp]) hu hcalm, rfl,
    .neutral (h.of_shown hcalm rfl h.source rfl) rfl rfl rfl rfl rfl (List.append_nil _).symm rfl rfl, rfl⟩

/-- Step 4 counts the off-delay down, and where it held 1 calls `AMP_OFF` (rule R164). -/
theorem step4 (hp : s.phase = .p4) (hw : s.world.wdt = s.cfg.iterPeriod) :
    ∃ t es, step s = .next t ∧ t.phase = .p5 ∧ CountsDown s t es 1 0 := by
  have hslack : s.slack s.cfg.relayHold.toNat := by
    rw [State.slack, hw]
    exact h.relayHold_le
  have heffect := AmpEffect.step4 s
  obtain ⟨_, hframe⟩ := StepFrame.step4 s
  obtain ⟨es, htrace, hofft, hpulses, hredundant, hledOff⟩ := s.step4_counts
  have hcfg : (s.step4 Engine.whole).cfg = s.cfg := (Grows.step4 s Engine.whole_good).cfg
  obtain ⟨hledt, hled⟩ := hframe.led nofun nofun
  have hcalm : ((s.step4 Engine.whole).setPhase .p5).world.calm = true := heffect.calm h.calm hslack
  have hu : s.phaseBody Engine.whole = (s.step4 Engine.whole).setPhase .p5 := by
    rw [State.phaseBody_p4 _ hp]
    exact State.nextPhase_eq_setPhase (hframe.phase.trans hp)
  refine ⟨_, es, h.step_eq_phaseBody (by simp [hp]) (by simp [hp]) hu hcalm, rfl,
    h.of_shown hcalm hcfg (hframe.srcPrev nofun) heffect.shown, hcfg, State.ampSense_of_shown hcfg heffect.shown, hofft,
    congrArg _ hledt, ?_, htrace, hpulses, hredundant, ?_⟩
  · rw [ranOut_zero]
    exact hled.trans (Bool.and_true _).symm
  · rw [ranOut_zero]
    exact hledOff

/-- Step 6 counts the LED's window down, and where it held 1 turns the LED off (rule R167). -/
theorem step6 (hp : s.phase = .p6) : ∃ t es, step s = .next t ∧ t.phase = .p7 ∧ CountsDown s t es 0 1 := by
  obtain ⟨_, hframe⟩ := StepFrame.step6 s
  obtain ⟨es, htrace, hledt, hled, hpulses, hledOff⟩ := s.step6_counts
  have hcfg : s.step6.cfg = s.cfg := (Grows.step6 s).cfg
  have hshown : s.step6.world.shown = s.world.shown := congrArg _ s.step6_world
  obtain ⟨hofft, -⟩ := hframe.relay nofun nofun nofun
  have hcalm : (s.step6.setPhase .p7).world.calm = true := (congrArg World.calm s.step6_world).trans h.calm
  have hu : s.phaseBody Engine.whole = s.step6.setPhase .p7 := by
    rw [State.phaseBody_p6 _ hp]
    exact State.nextPhase_eq_setPhase (hframe.phase.trans hp)
  refine ⟨_, es, h.step_eq_phaseBody (by simp [hp]) (by simp [hp]) hu hcalm, rfl,
    h.of_shown hcalm hcfg (hframe.srcPrev nofun) hshown, hcfg, State.ampSense_of_shown hcfg hshown,
    congrArg _ hofft, hledt, hled, htrace, ?_, ?_, hledOff⟩
  · rw [ranOut_zero]
    exact hpulses
  · simp [ranOut_zero]

/-- Step 5 finds no byte. -/
theorem step5 (hp : s.phase = .p5) : ∃ t es, step s = .next t ∧ t.phase = .p6 ∧ CountsDown s t es 0 0 := by
  have hpoll : s.step5 Engine.whole = s.pollSerial := by
    rw [State.step5, State.pollSerial_serLat, h.serial]
    exact State.dispatchSerial_none _ _
  have hworld : s.pollSerial.world = s.world := by
    rw [State.pollSerial_world, ← h.serial]
  have hu : s.phaseBody Engine.whole = s.pollSerial.setPhase .p6 := by
    rw [State.phaseBody_p5 _ hp, hpoll]
    exact State.nextPhase_eq_setPhase (s := s.pollSerial) hp
  have hcalm : (s.pollSerial.setPhase .p6).world.calm = true := h.calm
  exact ⟨_, [], h.step_eq_phaseBody (by simp [hp]) (by simp [hp]) hu hcalm, rfl,
    .neutral (h.of_shown hcalm rfl rfl (congrArg World.shown hworld)) rfl rfl rfl rfl rfl (List.append_nil _).symm rfl rfl⟩

/-- Step 7 finds no record. -/
theorem step7 (hp : s.phase = .p7) : ∃ t es, step s = .next t ∧ t.phase = .p1 ∧ CountsDown s t es 0 0 := by
  have hu : s.phaseBody Engine.whole = s.setPhase .p1 := by
    rw [State.phaseBody_p7 _ hp, State.step7_of_no_report _ h.record]
    exact State.nextPhase_eq_setPhase hp
  have hcalm : (s.setPhase .p1).world.calm = true := h.calm
  exact ⟨_, [], h.step_eq_phaseBody (by simp [hp]) (by simp [hp]) hu hcalm, rfl,
    .neutral (h.of_shown hcalm rfl rfl rfl) rfl rfl rfl rfl rfl (List.append_nil _).symm rfl rfl⟩

/-- One iteration is one count of each timer. -/
theorem iteration (hp : s.phase = .p1) :
    ∃ t es, Sys2Proof.core.run 7 s = .next t ∧ t.phase = .p1 ∧ CountsDown s t es 1 1 := by
  obtain ⟨s1, es1, hs1, hp1, h1, hw1⟩ := h.step1 hp
  obtain ⟨s2, es2, hs2, hp2, h2, hw2⟩ := h1.quiet.step2 hp1 hw1
  obtain ⟨s3, es3, hs3, hp3, h3, hw3⟩ := h2.quiet.step3 hp2
  obtain ⟨s4, es4, hs4, hp4, h4⟩ := h3.quiet.step4 hp3 (by rw [hw3, hw2, h3.cfg])
  obtain ⟨s5, es5, hs5, hp5, h5⟩ := h4.quiet.step5 hp4
  obtain ⟨s6, es6, hs6, hp6, h6⟩ := h5.quiet.step6 hp5
  obtain ⟨s7, es7, hs7, hp7, h7⟩ := h6.quiet.step7 hp6
  refine ⟨s7, _, ?_, hp7, (((((h1.trans h2).trans h3).trans h4).trans h5).trans h6).trans h7⟩
  rw [core_run_succ hs1, core_run_succ hs2, core_run_succ hs3, core_run_succ hs4, core_run_succ hs5, core_run_succ hs6,
    core_run_succ hs7]
  rfl

/-- So `n` iterations are `n` counts of each. -/
theorem iterations (hp : s.phase = .p1) (n : Nat) :
    ∃ t es, Sys2Proof.core.run (7 * n) s = .next t ∧ t.phase = .p1 ∧ CountsDown s t es n n := by
  induction n with
  | zero =>
    exact ⟨s, [], rfl, hp, .neutral h rfl rfl rfl rfl rfl (List.append_nil _).symm rfl rfl⟩
  | succ n ih =>
    obtain ⟨t, es, hrun, hpt, ht⟩ := ih
    obtain ⟨u, fs, hrun', hpu, hu⟩ := ht.quiet.iteration hpt
    exact ⟨u, es ++ fs, (core_run_add hrun 7).trans hrun', hpu, ht.trans hu⟩

end Quiet

/-- Settles O48: of the `n` counts of the off-delay the one that ends it calls `AMP_OFF`. -/
theorem offDelayFiresOnce : Obligations.OffDelayFiresOnce := by
  intro s n hp hstill hsource hserial hrecord hofft hroom
  obtain ⟨t, es, hrun, -, ht⟩ := Quiet.iterations ⟨hstill, hsource, hserial, hrecord, hroom⟩ hp n
  have hout := ranOut_of_ne_zero hofft n
  have hev : s.newEvents t = es := State.newEvents_of_append _ _ _ ht.trace
  refine ⟨t, hrun, ht.offt, ?_, fun hle hamp => ?_⟩
  · rw [hev, ht.pulses, hout]
    by_cases hle : s.offt.toNat ≤ n <;> cases s.ampSense <;> simp [hle]
  · rw [hev]
    exact ht.redundant (by simpa [hout] using hle) hamp

/-- Settles O49: of the `n` counts of the window the one that ends it turns the LED off. -/
theorem ledWindowEndsOnce : Obligations.LedWindowEndsOnce := by
  intro s n hp hstill hsource hserial hrecord hled hledt hroom
  obtain ⟨t, es, hrun, -, ht⟩ := Quiet.iterations ⟨hstill, hsource, hserial, hrecord, hroom⟩ hp n
  have hout := ranOut_of_ne_zero hledt n
  have hev : s.newEvents t = es := State.newEvents_of_append _ _ _ ht.trace
  refine ⟨t, hrun, ht.ledt, ?_, ?_⟩
  · simp [ht.led, hled, hout, ← decide_not]
  · rw [hev, ht.ledOff, hout]
    by_cases hle : s.ledt.toNat ≤ n <;> simp [hle]

end Sys2Proof.Machine

/-! PROOFS. What a listener hears (rules R78, R79, R105): the pin-level view of a frame cut back into its units, and the units
read back. -/

namespace Sys2Proof.Machine

/-! ### From the pin level back to the units -/

/-- The events of a unit are its pin-level samples (rules R80, R105). -/
theorem pinLevel_unitEvents (c : Config) (u : Sym) :
    pinLevel (unitEvents c u) = u.pinLevels c.cyclesPerUnit.toNat := by
  cases u with
  | mark =>
    have hcycle (k : Nat) : pinLevel (List.replicate k [Event.ir true 1, .ir false 1]).flatten =
        (List.replicate k [true, false]).flatten := by
      induction k with
      | zero => rfl
      | succ k ih => rw [List.replicate_succ, List.flatten_cons, pinLevel_append, ih]; rfl
    exact hcycle _
  | space =>
    rw [Sym.pinLevels, ← c.hpPerUnit_eq]
    exact List.append_nil _

theorem pinLevel_units (c : Config) (us : List Sym) :
    pinLevel (us.flatMap (unitEvents c)) = pinLevelOfUnits c.cyclesPerUnit.toNat us := by
  induction us with
  | nil => rfl
  | cons u us ih => rw [List.flatMap_cons, pinLevel_append, pinLevel_unitEvents, ih]; rfl

/-- A unit takes `2 k` samples, whichever it is. -/
theorem Sym.length_pinLevels (k : Nat) (u : Sym) : (u.pinLevels k).length = 2 * k := by
  cases u <;> simp [Sym.pinLevels, Nat.mul_comm]

theorem length_pinLevelOfUnits (k : Nat) (us : List Sym) : (pinLevelOfUnits k us).length = us.length * (2 * k) := by
  induction us with
  | nil => simp [pinLevelOfUnits]
  | cons u us ih =>
    have hcons : pinLevelOfUnits k (u :: us) = u.pinLevels k ++ pinLevelOfUnits k us := List.flatMap_cons
    rw [hcons, List.length_append, Sym.length_pinLevels, ih, List.length_cons, Nat.add_mul, Nat.one_mul, Nat.add_comm]

/-- A mark begins high and a space low, so the samples of a unit tell which it is. -/
theorem blockUnit_pinLevels {k : Nat} (hk : k ≠ 0) (u : Sym) : blockUnit k (u.pinLevels k) = some u := by
  obtain ⟨k, rfl⟩ := Nat.exists_eq_succ_of_ne_zero hk
  cases u with
  | mark => exact if_pos rfl
  | space =>
    have hne : Sym.pinLevels (k + 1) .space ≠ Sym.pinLevels (k + 1) .mark := by
      simp [Sym.pinLevels, List.replicate_succ, Nat.mul_succ]
    rw [blockUnit, if_neg hne, if_pos rfl]

theorem cutUnits_pinLevelOfUnits {k : Nat} (hk : k ≠ 0) (us : List Sym) :
    cutUnits k us.length (pinLevelOfUnits k us) = some us := by
  induction us with
  | nil => rfl
  | cons u us ih =>
    have hlen := u.length_pinLevels k
    have hcons : pinLevelOfUnits k (u :: us) = u.pinLevels k ++ pinLevelOfUnits k us := List.flatMap_cons
    rw [hcons, List.length_cons, cutUnits, List.take_left' hlen, List.drop_left' hlen, blockUnit_pinLevels hk, ih]
    rfl

/-- Seen unit by unit, the events of some units are these units (rule R105). -/
theorem unitsOf_units {c : Config} (hc : c.cyclesPerUnit ≠ 0) (us : List Sym) :
    unitsOf c (us.flatMap (unitEvents c)) = some us := by
  have hk : c.cyclesPerUnit.toNat ≠ 0 := by simpa [← BitVec.toNat_inj] using hc
  rw [unitsOf, pinLevel_units, unitLevel, length_pinLevelOfUnits, Nat.mul_div_cancel _ (by omega)]
  exact cutUnits_pinLevelOfUnits hk us

/-- What a frame sends, seen unit by unit. -/
theorem State.unitsOf_sent {s : State} (hc : s.cfg.cyclesPerUnit ≠ 0) (f : Frame) (r : Bool) (us : List Sym) :
    unitsOf s.cfg (s.newEvents (s.sent f r us)) = some us := by
  rw [State.newEvents_of_append _ _ _ (State.sent_trace s f r us), unitsOf_units hc]

/-! ### Runs and slots -/

/-- A run ends where the other symbol begins, or the trace. -/
theorem takeRun_replicate_append {u : Sym} {r : List Sym} (hr : r.head? ≠ some u) (n : Nat) :
    takeRun u (List.replicate n u ++ r) = (n, r) := by
  induction n with
  | zero =>
    cases r with
    | nil => rfl
    | cons v r => exact if_neg (fun h => hr (congrArg some h))
  | succ n ih => rw [List.replicate_succ, List.cons_append, takeRun, if_pos rfl, ih]

theorem expectRun_replicate_append {u : Sym} {r : List Sym} (hr : r.head? ≠ some u) (n : Nat) :
    expectRun u n (List.replicate n u ++ r) = some r := by
  rw [expectRun, takeRun_replicate_append hr, if_pos rfl]

/-- A run that ends the trace. -/
theorem expectRun_replicate (u : Sym) (n : Nat) : expectRun u n (List.replicate n u) = some [] := by
  have hrun := expectRun_replicate_append (u := u) (r := []) nofun n
  rwa [List.append_nil] at hrun

/-- A bit slot that a mark follows is read back (rule R78). -/
theorem readSlot_slotUnits {c : Config} (h : c.frameShape = true) (b : Bool) {r : List Sym} (hr : r.head? = some .mark) :
    readSlot c (slotUnits c b ++ r) = some (b, r) := by
  obtain ⟨-, -, -, hmark, h0, h1, -⟩ := c.frameShape_iff.mp h
  have hspace (n : Nat) : takeRun .space (List.replicate n .space ++ r) = (n, r) :=
    takeRun_replicate_append (by simp [hr]) n
  have hbit : expectRun .mark c.bitMark.toNat (slotUnits c b ++ r) =
      some (List.replicate (if b then c.bit1Space else c.bit0Space).toNat .space ++ r) := by
    rw [slotUnits, List.append_assoc]
    refine expectRun_replicate_append ?_ _
    cases b <;> simp [h0, h1, List.replicate]
  rw [readSlot, hbit]
  simp only [Option.bind_eq_bind, Option.bind_some, hspace]
  cases b <;> simp [h0, h1]

/-- Bits onto the ones read so far, the first one most significant. -/
def pushBits (f : Frame) (bits : List Bool) : Frame := bits.foldl (fun g b => g <<< 1 ||| (if b then 1 else 0)) f

/-- Slots begin with a mark, and what follows them does. -/
theorem head?_slots_append {c : Config} (h : c.frameShape = true) (bits : List Bool) {r : List Sym}
    (hr : r.head? = some .mark) : (bits.flatMap (slotUnits c) ++ r).head? = some .mark := by
  rw [slotUnits_of_frameShape h]
  cases bits with
  | nil => exact hr
  | cons b bits => cases b <;> rfl

/-- Slots that a mark follows are read back one after the other. -/
theorem readSlots_slotUnits {c : Config} (h : c.frameShape = true) (bits : List Bool) (f : Frame) {r : List Sym}
    (hr : r.head? = some .mark) :
    readSlots c bits.length f (bits.flatMap (slotUnits c) ++ r) = some (pushBits f bits, r) := by
  induction bits generalizing f with
  | nil => rfl
  | cons b bits ih =>
    rw [List.flatMap_cons, List.append_assoc, List.length_cons, readSlots,
      readSlot_slotUnits h b (head?_slots_append h bits hr)]
    exact ih _

theorem bitsMsbFirst_length (f : Frame) (n : Nat) : (bitsMsbFirst f n).length = n := by
  induction n with
  | zero => rfl
  | succ n ih => rw [bitsMsbFirst, List.length_cons, ih]

/-- The last `n` bits of a frame pushed onto others, bit by bit. -/
theorem pushBits_getLsbD (f g : Frame) (n i : Nat) (hi : i < 32) :
    (pushBits g (bitsMsbFirst f n)).getLsbD i = if i < n then f.getLsbD i else g.getLsbD (i - n) := by
  induction n generalizing g with
  | zero => rfl
  | succ n ih =>
    have hbit (b : Bool) (j : Nat) : (if b then 1 else 0 : Frame).getLsbD j = (decide (j = 0) && b) := by
      cases b <;> simp [BitVec.getLsbD_one]
    have hpush : pushBits g (bitsMsbFirst f (n + 1)) =
        pushBits (g <<< 1 ||| (if f.getLsbD n then 1 else 0)) (bitsMsbFirst f n) := rfl
    rw [hpush, ih, BitVec.getLsbD_or, BitVec.getLsbD_shiftLeft, hbit]
    rcases Nat.lt_trichotomy i n with hlt | rfl | hgt
    · rw [if_pos hlt, if_pos (by omega)]
    · simp
    · have hsub : i - n - 1 = i - (n + 1) := by omega
      simp [show ¬ i < n by omega, show ¬ i < n + 1 by omega, show i - n < 32 by omega, show ¬ i - n = 0 by omega,
        show ¬ i - n < 1 by omega, hsub]

/-- A frame's 32 bits, most significant first, make the frame again (rules R44, R78). -/
theorem pushBits_bitsMsbFirst (f : Frame) : pushBits 0 (bitsMsbFirst f 32) = f := by
  apply BitVec.eq_of_getLsbD_eq
  intro i hi
  rw [pushBits_getLsbD f 0 32 i hi, if_pos hi]

/-! ### The two frames -/

section
variable {c : Config} (h : c.frameShape = true)
include h

/-- The listener reads the frame off the waveform of a command frame (rules R77, R78). -/
theorem listen_commandUnits (f : Frame) : listen c (commandUnits c f) = some (.command f) := by
  obtain ⟨-, hspace, -, -, -, -, hend, hbits, -⟩ := c.frameShape_iff.mp h
  have hlen := bitsMsbFirst_length f c.frameBits.toNat
  have hslots := readSlots_slotUnits h (bitsMsbFirst f c.frameBits.toNat) 0 (r := List.replicate c.endMark.toNat .mark)
    (by rw [hend]; rfl)
  have hhead : ((bitsMsbFirst f c.frameBits.toNat).flatMap (slotUnits c) ++
      List.replicate c.endMark.toNat Sym.mark).head? = some .mark := head?_slots_append h _ (by rw [hend]; rfl)
  rw [hlen] at hslots
  rw [commandUnits, List.append_assoc, List.append_assoc, listen,
    expectRun_replicate_append (by rw [hspace]; nofun) c.leadMark.toNat, Option.bind_eq_bind, Option.bind_some,
    takeRun_replicate_append (by rw [hhead]; nofun) c.leadSpace.toNat, if_pos rfl, hslots, Option.bind_eq_bind,
    Option.bind_some]
  simp only [expectRun_replicate, Option.bind_some, if_true]
  rw [hbits]
  exact congrArg (some ∘ Reading.command) (pushBits_bitsMsbFirst f)

/-- The first space tells a repeat frame from a command frame (rule R79). -/
theorem listen_repeatUnits : listen c (repeatUnits c) = some .repeated := by
  obtain ⟨-, hspace, hrpt, -, -, -, hend, -⟩ := c.frameShape_iff.mp h
  have hfirst : c.rptSpace.toNat ≠ c.leadSpace.toNat := by
    rw [hrpt, hspace]
    decide
  rw [repeatUnits, List.append_assoc, listen, expectRun_replicate_append (by rw [hrpt]; nofun) c.leadMark.toNat,
    Option.bind_eq_bind, Option.bind_some, takeRun_replicate_append (by rw [hend]; nofun) c.rptSpace.toNat,
    if_neg hfirst, if_pos rfl, expectRun_replicate]
  rfl

end

/-- Settles O16: the listener gets the units that were sent, and reads them back. -/
theorem listenerReads : Obligations.ListenerReads := by
  intro a k s h
  obtain ⟨-, -, -, -, -, -, -, -, hcycles⟩ := s.cfg.frameShape_iff.mp h
  refine ⟨⟨s.transmit a k, commandUnits s.cfg (necFrame a k), rfl, ?_, ?_⟩,
    ⟨s.transmitRepeat, repeatUnits s.cfg, rfl, ?_, ?_⟩⟩
  · rw [State.transmit_of_frameShape h, State.unitsOf_sent hcycles]
  · rw [listen_commandUnits h, necFrame_eq_frameOfBytes]
    rfl
  · rw [State.transmitRepeat_eq, State.unitsOf_sent hcycles]
  · exact listen_repeatUnits h

end Sys2Proof.Machine

/-! PROOFS. The samples, the first step of the loop, and the wire that a step reads. -/

namespace Sys2Proof.Machine

/-! ### Power sensing -/

/-- What a polarity does to a level (rules R41, R42). -/
theorem throughPolarity_eq (p : Polarity) (b : Bool) : throughPolarity p b = if p = .activeHigh then b else !b := by
  cases p <;> rfl

/-- Settles O17: a sample writes the model's own field alone, and each pin is its level through the polarity. -/
theorem sampleResult : Obligations.SampleResult := by
  intro s
  refine ⟨⟨s.sampleAmp, rfl, .withSampled s s _, ?_⟩, ⟨s.sampleSrc, rfl, .withSampled s s _, ?_⟩, ?_, ?_, rfl⟩
  · rw [State.sampleAmp_sampled, State.ampSense, throughPolarity_eq]
  · rw [State.sampleSrc_sampled, State.srcSense, throughPolarity_eq]
  · rw [State.relayPin, throughPolarity_eq]
  · rw [State.ledPin, throughPolarity_eq]

/-! ### Step 1 -/

theorem State.phaseBody_p1 {s : State} (e : Engine) (h : s.phase = .p1) : s.phaseBody e = s.kick.setPhase .p2 := by
  rw [State.phaseBody, h]
  exact State.nextPhase_eq_setPhase (s := s.kick) h

/-- Settles O31: the body is the service of the watchdog, which takes no time. -/
theorem step1Kicks : Obligations.Step1Kicks := by
  intro s hp hc h
  obtain ⟨hcalm, -⟩ := State.startStep_calm h
  have hbody := State.phaseBody_p1 Engine.whole (s.startStep_phase.trans hp)
  refine ⟨_, step_of_undisturbed_body h (by simp [hp]) (fun _ => hc) hbody hcalm, ?_⟩
  rw [← s.startStep_trace]
  exact .refl _ _

/-! ### The wire -/

section
variable (a k : Byte)

@[simp] theorem frameA_frameOfBytes : frameA (frameOfBytes a k) = a := by
  apply BitVec.eq_of_getLsbD_eq
  intro i hi
  rw [frameA, BitVec.getLsbD_extractLsb', frameOfBytes_getLsbD]
  simp [hi, show ¬ 24 + i < 8 by omega, show ¬ 24 + i < 16 by omega, show ¬ 24 + i < 24 by omega]

@[simp] theorem frameNA_frameOfBytes : frameNA (frameOfBytes a k) = ~~~a := by
  apply BitVec.eq_of_getLsbD_eq
  intro i hi
  rw [frameNA, BitVec.getLsbD_extractLsb', frameOfBytes_getLsbD]
  simp [hi, show ¬ 16 + i < 8 by omega, show ¬ 16 + i < 16 by omega, show 16 + i < 24 by omega]

@[simp] theorem frameC_frameOfBytes : frameC (frameOfBytes a k) = k := by
  apply BitVec.eq_of_getLsbD_eq
  intro i hi
  rw [frameC, BitVec.getLsbD_extractLsb', frameOfBytes_getLsbD]
  simp [hi, show ¬ 8 + i < 8 by omega, show 8 + i < 16 by omega]

@[simp] theorem frameNC_frameOfBytes : frameNC (frameOfBytes a k) = ~~~k := by
  apply BitVec.eq_of_getLsbD_eq
  intro i hi
  rw [frameNC, BitVec.getLsbD_extractLsb', frameOfBytes_getLsbD]
  simp [hi]

/-- The decoder reads a frame's two data bytes where the encoder wrote them (rules R75, R83). -/
theorem decodeFrame_frameOfBytes : decodeFrame (frameOfBytes a k) = .ok (.transmit a k) := by
  simp [decodeFrame, isNecFrame]

end

/-- An ignored poll decodes as itself (rule R81). -/
theorem decodeSerial_of_serialIgnored {p : Option Byte} (h : serialIgnored p = true) : decodeSerial p = .serIgnored p := by
  cases p with
  | none => rfl
  | some b =>
    rcases decodeSerial_cases b with ⟨hb, -⟩ | ⟨-, hd⟩
    · simp_all [serialIgnored]
    · exact hd

/-- The rows of rule R74 for the configured address, by the command (rule R232 keeps the three apart). -/
theorem decodeRecord_ownRecord {c : Config} (hc : c.legal = true) (t : Bool) :
    decodeRecord c (ownRecord c c.rcVolUp t) = .rcVolumeUp t ∧
      decodeRecord c (ownRecord c c.rcVolDown t) = .rcVolumeDown t ∧ decodeRecord c (ownRecord c c.rcMute t) = .rcMute t := by
  obtain ⟨-, -, -, -, hud, hum, hdm⟩ := c.legal_iff.mp hc
  simp [decodeRecord, ownRecord, hud.symm, hum.symm, hdm.symm]

/-- Decoding inverts encoding for every well-formed instruction (rules R70 to R75, R81, R83). -/
theorem decode_encode {c : Config} {i : Instr} (hc : c.legal = true) (hi : wellFormed c i = true) :
    decode c (encode c i) = .ok i := by
  cases i with
  | serIgnored p => exact congrArg _ (decodeSerial_of_serialIgnored hi)
  | rcVolumeUp t =>
    obtain ⟨hup, -, -⟩ := decodeRecord_ownRecord hc t
    exact congrArg _ hup
  | rcVolumeDown t =>
    obtain ⟨-, hdown, -⟩ := decodeRecord_ownRecord hc t
    exact congrArg _ hdown
  | rcMute t =>
    obtain ⟨-, -, hmute⟩ := decodeRecord_ownRecord hc t
    exact congrArg _ hmute
  | rcUnmapped cmd t => simp_all [wellFormed, Config.unmapped, encode, decode, decodeRecord, ownRecord]
  | rcOtherAddr addr cmd t => simp_all [wellFormed, encode, decode, decodeRecord]
  | rcMalformed startbits addr cmd t => simp_all [wellFormed, encode, decode, decodeRecord]
  | transmit a k => exact decodeFrame_frameOfBytes a k
  | _ => rfl

/-- Settles O29: the wire decodes to the instruction that it encodes, and the time before the step does not change the wire. -/
theorem stepRunsDecoded : Obligations.StepRunsDecoded := by
  intro s t i hd hlegal hwf hf he
  exact step_of_decode s t _ i hd (s.startStep_fetch.trans hf) (decode_encode hlegal hwf) he

end Sys2Proof.Machine

/-! PROOFS. Nobody but step 3 looks at the source's rail (rules R57, R131): each operation but `SAMPLE_SRC` does the same with
another level on the pin. -/

namespace Sys2Proof.Machine

/-- The state with another physical level on the `SRC_SENSE` pin. -/
def State.withSrc (s : State) (b : Bool) : State := { s with world := { s.world with srcPin := b } }

section
variable (s : State) (b : Bool)

/-! ### What the pin is not -/

@[simp] theorem State.withSrc_cfg : (s.withSrc b).cfg = s.cfg := rfl
@[simp] theorem State.withSrc_phase : (s.withSrc b).phase = s.phase := rfl
@[simp] theorem State.withSrc_ampSense : (s.withSrc b).ampSense = s.ampSense := rfl
@[simp] theorem State.withSrc_offt : (s.withSrc b).offt = s.offt := rfl
@[simp] theorem State.withSrc_ledt : (s.withSrc b).ledt = s.ledt := rfl
@[simp] theorem State.withSrc_unitcnt : (s.withSrc b).unitcnt = s.unitcnt := rfl
@[simp] theorem State.withSrc_cyccnt : (s.withSrc b).cyccnt = s.cyccnt := rfl
@[simp] theorem State.withSrc_half : (s.withSrc b).half = s.half := rfl
@[simp] theorem State.withSrc_txstate : (s.withSrc b).txstate = s.txstate := rfl
@[simp] theorem State.withSrc_holdcnt : (s.withSrc b).holdcnt = s.holdcnt := rfl
@[simp] theorem State.withSrc_elapsed : (s.withSrc b).elapsed = s.elapsed := rfl
@[simp] theorem State.withSrc_resets : (s.withSrc b).resets = s.resets := rfl
@[simp] theorem State.withSrc_nextReset : (s.withSrc b).nextReset = s.nextReset := rfl

/-! ### The operations -/

theorem State.ampOn_withSrc : (s.withSrc b).ampOn State.relayPulse = (s.ampOn State.relayPulse).withSrc b := by
  rw [State.ampOn_whole, State.ampOn_whole, State.withSrc_ampSense]
  cases s.ampSense <;> rfl

theorem State.ampOff_withSrc : (s.withSrc b).ampOff State.relayPulse = (s.ampOff State.relayPulse).withSrc b := by
  rw [State.ampOff_whole, State.ampOff_whole, State.withSrc_ampSense]
  cases s.ampSense <;> rfl

theorem State.foldl_sendBit_withSrc (bits : List Bool) :
    bits.foldl State.sendBit (s.withSrc b) = (bits.foldl State.sendBit s).withSrc b :=
  List.foldl_hom (State.withSrc · b) (fun _ bit => by cases bit <;> rfl)

theorem State.transmit_withSrc (a k : Byte) : (s.withSrc b).transmit a k = (s.transmit a k).withSrc b :=
  congrArg (fun t : State => (t.burst1 s.cfg.endMark).restTransmitter (necFrame a k <<< s.cfg.frameBits.toNat))
    (State.foldl_sendBit_withSrc
      (((s.loadFrame (necFrame a k) s.cfg.frameBits false).burst1 s.cfg.leadMark).burst0 s.cfg.leadSpace) b
      (bitsMsbFirst (necFrame a k) s.cfg.frameBits.toNat))

theorem State.dispatchSerial_withSrc (p : Option Byte) :
    (s.withSrc b).dispatchSerial Engine.whole p = (s.dispatchSerial Engine.whole p).withSrc b := by
  unfold State.dispatchSerial
  repeat' split
  · exact s.ampOn_withSrc b
  · exact s.ampOff_withSrc b
  · rfl
  · exact s.transmit_withSrc b _ _
  · exact s.transmit_withSrc b _ _
  · exact s.transmit_withSrc b _ _
  · rfl

theorem State.dispatchRecord_withSrc (r : RcRecord) :
    (s.withSrc b).dispatchRecord Engine.whole r = (s.dispatchRecord Engine.whole r).withSrc b := by
  unfold State.dispatchRecord
  rw [State.withSrc_cfg]
  dsimp only
  repeat' split
  · rfl
  · exact s.armLed.transmit_withSrc b _ _
  · exact s.armLed.transmit_withSrc b _ _
  · exact s.armLed.transmit_withSrc b _ _
  · rfl
  · rfl

/-! ### The steps of the loop -/

theorem State.step2_withSrc : (s.withSrc b).step2 = s.step2.withSrc b := by
  rw [State.step2_eq, State.step2_eq]
  rfl

theorem State.step4_withSrc : (s.withSrc b).step4 Engine.whole = (s.step4 Engine.whole).withSrc b := by
  rw [State.step4_eq, State.step4_eq, State.withSrc_offt]
  repeat' split
  · rfl
  · exact s.ampOff_withSrc b
  · rfl

theorem State.step6_withSrc : (s.withSrc b).step6 = s.step6.withSrc b := by
  rw [State.step6_eq, State.step6_eq, State.withSrc_ledt]
  repeat' split
  · rfl
  · rfl
  · rfl

theorem State.step7_withSrc : (s.withSrc b).step7 Engine.whole = (s.step7 Engine.whole).withSrc b := by
  cases hr : s.world.decoder.report with
  | none => rw [State.step7_of_no_report _ hr]; exact State.step7_of_no_report _ hr
  | some r =>
    rw [State.step7_of_report _ hr]
    exact (State.step7_of_report (s := s.withSrc b) _ hr).trans ((s.takeRecord r).rearm.dispatchRecord_withSrc b r)

theorem State.phaseBody_withSrc (h : s.phase ≠ .p3) :
    (s.withSrc b).phaseBody Engine.whole = (s.phaseBody Engine.whole).withSrc b := by
  have hnext {t u : State} (htu : t = u.withSrc b) : t.nextPhase = u.nextPhase.withSrc b := by rw [htu]; rfl
  cases hp : s.phase <;> simp only [State.phaseBody, State.withSrc_phase, hp]
  case p1 => rfl
  case p2 => exact hnext (s.step2_withSrc b)
  case p3 => exact absurd hp h
  case p4 => exact hnext (s.step4_withSrc b)
  case p5 => exact hnext (s.pollSerial.dispatchSerial_withSrc b _)
  case p6 => exact hnext (s.step6_withSrc b)
  case p7 => exact hnext (s.step7_withSrc b)

/-! ### A tick of the clocked machine -/

theorem State.countTick_withSrc : (s.withSrc b).countTick = s.countTick.withSrc b := by
  unfold State.countTick
  rw [State.withSrc_half, State.withSrc_cyccnt]
  repeat' split
  · rfl
  · rfl
  · rfl

theorem State.burstDone_withSrc : (s.withSrc b).burstDone = s.burstDone.withSrc b := by
  cases htx : s.txstate <;> simp only [State.burstDone, State.withSrc_txstate, htx]
  case leadSpace | bitSpace =>
    exact (apply_ite (State.withSrc · b) (s.bitcnt = 0) (((s.writeIr false).setTx .endMark).startBurst true s.cfg.endMark)
      (((s.writeIr false).setTx .bitMark).startBurst true s.cfg.bitMark)).symm
  all_goals rfl

theorem State.burstTick_withSrc : (s.withSrc b).burstTick = s.burstTick.withSrc b := by
  have hcount := (((s.writeIr (s.mark && !s.half)).emits [.ir (s.mark && !s.half) 1]).wait 1).countTick_withSrc b
  have hdone (t : State) : (if (t.withSrc b).unitcnt = 0 then (t.withSrc b).burstDone else t.withSrc b) =
      (if t.unitcnt = 0 then t.burstDone else t).withSrc b := by
    rw [State.burstDone_withSrc]
    exact (apply_ite (State.withSrc · b) (t.unitcnt = 0) t.burstDone t).symm
  exact (congrArg (fun t : State => if t.unitcnt = 0 then t.burstDone else t) hcount).trans (hdone _)

theorem State.holdTick_withSrc : (s.withSrc b).holdTick = s.holdTick.withSrc b :=
  (apply_ite (State.withSrc · b) (s.holdcnt - 1 = 0) ((s.emits [.hold 1]).wait 1).countHold.endHold.resume
    ((s.emits [.hold 1]).wait 1).countHold).symm

theorem State.clockTick_withSrc : (s.withSrc b).clockTick = s.clockTick.withSrc b := by
  unfold State.clockTick
  rw [State.withSrc_holdcnt, State.withSrc_unitcnt]
  repeat' split
  · exact s.holdTick_withSrc b
  · exact s.burstTick_withSrc b
  · exact s.burstDone_withSrc b

/-! ### Around a step -/

theorem State.startStep_withSrc : (s.withSrc b).startStep = s.startStep.withSrc b := by
  unfold State.startStep
  rw [State.withSrc_phase]
  split <;> rfl

theorem State.takeReset_withSrc : (s.withSrc b).takeReset = s.takeReset.withSrc b := by
  rw [State.takeReset_eq, State.takeReset_eq]
  rfl

theorem State.cutAt_withSrc (t : State) (n : Nat) : (s.withSrc b).cutAt (t.withSrc b) n = (s.cutAt t n).withSrc b := by
  unfold State.cutAt
  simp only [State.startStep_withSrc, State.withSrc_elapsed, State.takeReset_eq]
  split
  · rfl
  · rfl

theorem State.conclude_withSrc (t : State) : (s.withSrc b).conclude (t.withSrc b) = (s.conclude t).withSrc b := by
  unfold State.conclude
  rw [State.withSrc_resets, State.withSrc_resets, State.withSrc_nextReset, State.withSrc_elapsed]
  split
  · rfl
  · split
    · split
      · exact s.cutAt_withSrc b t _
      · rfl
    · rfl

/-- A step is blind to the pin if its body is. -/
theorem State.under_withSrc {body : State → State} (h : body (s.startStep.withSrc b) = (body s.startStep).withSrc b) :
    (s.withSrc b).under body = (s.under body).withSrc b := by
  unfold State.under
  rw [State.startStep_withSrc, h, State.conclude_withSrc, State.takeReset_withSrc]
  exact (apply_ite (State.withSrc · b) _ _ _).symm

/-- What the world does next is the same, but for the pin itself. -/
theorem State.advance_withSrc (b' : Bool) : (s.withSrc b).advance.withSrc b' = s.advance.withSrc b' := by
  unfold State.advance
  rw [show (s.withSrc b).world.pending = s.world.pending from rfl]
  split
  · rfl
  · rfl

end

/-- While an operation is in progress a step of the machine is a tick of it, under the reset rules. -/
theorem step_eq_under_of_busy {s : State} (hb : s.phase = .busy) : step s = .next (s.under State.clockTick).advance := by
  have hfetch : s.startStep.fetch = none := by rw [State.startStep_fetch, State.fetch, hb]
  have hbody : s.startStep.stepBody = .next s.startStep.clockTick := by
    rw [State.stepBody, hfetch]
    exact congrArg _ (if_pos (s.startStep_phase.trans hb))
  unfold step State.under
  rw [hbody]
  split <;> rfl

/-- Every step but step 3 comes to the same state with another level on the pin, but for the level. -/
theorem step_withSrc (s : State) (b : Bool) (hp : s.phase ≠ .p3) (hc : s.phase = .p1 → s.world.hostCall = none) :
    ∃ t : State, step s = .next t.advance ∧ step (s.withSrc b) = .next (t.withSrc b).advance := by
  by_cases hb : s.phase = .busy
  · refine ⟨_, step_eq_under_of_busy hb, ?_⟩
    rw [step_eq_under_of_busy (s := s.withSrc b) hb, State.under_withSrc s b (State.clockTick_withSrc _ b)]
  · refine ⟨_, step_eq_under s hb hc, ?_⟩
    rw [step_eq_under (s.withSrc b) hb hc,
      State.under_withSrc s b (State.phaseBody_withSrc _ b (by rwa [State.startStep_phase]))]

/-- Settles O46: the two runs differ in the pin alone, which the statement puts aside. -/
theorem sourceReadOnlyInStep3 : Obligations.SourceReadOnlyInStep3 := by
  intro s t b hp hc h
  obtain ⟨u, hu, hu'⟩ := step_withSrc s b hp hc
  rw [hu, Host.Outcome.next.injEq] at h
  subst h
  exact ⟨_, hu', u.advance_withSrc b false⟩

end Sys2Proof.Machine

/-! PROOFS. One iteration as the pure function of rule R176: the time that a pass may take, the context and the events that each
step leaves, and the seven steps one after the other. -/

namespace Sys2Proof.Machine

theorem State.phaseBody_p2 {s : State} (e : Engine) (h : s.phase = .p2) : s.phaseBody e = s.step2.nextPhase := by
  rw [State.phaseBody, h]

/-! ### The time of a step -/

theorem AmpEffect.cfg {s t : State} (h : AmpEffect s t) : t.cfg = s.cfg := by
  cases h <;> rfl

theorem AmpEffect.decoder {s t : State} (h : AmpEffect s t) : t.world.decoder = s.world.decoder := by
  cases h <;> rfl

/-- An operation on the relay and the off-delay takes no time, or a pulse's and leaves the off-delay cancelled (rule R145). -/
theorem AmpEffect.wdt {s t : State} (h : AmpEffect s t) :
    t.world.wdt = s.world.wdt ∨ t.world.wdt = s.world.wdt + s.cfg.relayHold.toNat ∧ t.offt = 0 := by
  cases h with
  | quiet => exact .inl rfl
  | pulse => exact .inr ⟨rfl, rfl⟩

theorem AmpEffect.wdt_le {s t : State} (h : AmpEffect s t) :
    t.world.wdt ≤ s.world.wdt + s.cfg.relayHold.toNat := by
  rcases h.wdt with hw | ⟨hw, -⟩ <;> omega

theorem State.transmit_wdt {s : State} (h : s.cfg.frameShape = true) (a k : Byte) :
    (s.transmit a k).world.wdt = s.world.wdt + 121 * s.cfg.hpPerUnit := by
  rw [State.transmit_of_frameShape h, ← length_commandUnits h a k]
  rfl

/-- A serial command takes the time of one operation at most (rules R142, R165). -/
theorem State.dispatchSerial_wdt_le {s : State} (h : s.cfg.frameShape = true) (p : Option Byte) :
    (s.dispatchSerial Engine.whole p).world.wdt ≤ s.world.wdt + s.cfg.longestCall := by
  have hpulse : s.cfg.relayHold.toNat ≤ s.cfg.longestCall := Nat.le_max_left _ _
  have hframe : 121 * s.cfg.hpPerUnit ≤ s.cfg.longestCall := Nat.le_max_right _ _
  rcases s.dispatchSerial_cases p with ht | ⟨k, ht⟩
  · have := ht.wdt_le
    omega
  · rw [ht, State.transmit_wdt h]
    omega

end Sys2Proof.Machine

namespace Sys2Proof

/-- One pulse, one operation and one frame: what rule R178 counts in two ways. -/
theorem Config.worstBlocking_eq (c : Config) :
    c.worstBlocking = c.relayHold.toNat + c.longestCall + 121 * c.hpPerUnit := by
  unfold Config.worstBlocking Config.longestCall
  omega

end Sys2Proof

namespace Sys2Proof.Machine

/-- A pass that the watchdog leaves alone: before each step but step 1, which services it, the counter has room for what can
still block in this iteration (rules R178, R242). -/
structure Roomy (s : State) : Prop where
  shape : s.cfg.frameShape = true
  period : s.cfg.worstBlocking + s.cfg.iterPeriod ≤ s.cfg.wdtPeriod
  calm : s.world.calm = true
  room : s.phase ≠ .p1 → s.slack s.blockingLeft

/-! ### What can still block before each step (rule R178) -/

section
variable {s : State}

theorem State.blockingLeft_p2 (h : s.phase = .p2) : s.blockingLeft = s.cfg.iterPeriod + s.cfg.worstBlocking := by
  rw [State.blockingLeft, h]

theorem State.blockingLeft_p3 (h : s.phase = .p3) : s.blockingLeft = s.cfg.worstBlocking := by
  rw [State.blockingLeft, h]

theorem State.blockingLeft_p4 (h : s.phase = .p4) : s.blockingLeft =
    (if s.offt = 1 then s.cfg.relayHold.toNat else 0) + s.cfg.longestCall + 121 * s.cfg.hpPerUnit := by
  rw [State.blockingLeft, h]

theorem State.blockingLeft_p5 (h : s.phase = .p5) : s.blockingLeft = s.cfg.longestCall + 121 * s.cfg.hpPerUnit := by
  rw [State.blockingLeft, h]

theorem State.blockingLeft_p6 (h : s.phase = .p6) : s.blockingLeft = 121 * s.cfg.hpPerUnit := by
  rw [State.blockingLeft, h]

theorem State.blockingLeft_p7 (h : s.phase = .p7) : s.blockingLeft = 121 * s.cfg.hpPerUnit := by
  rw [State.blockingLeft, h]

end

namespace Roomy

variable {s : State} (h : Roomy s)
include h

/-- The room before a step, by what can still block. -/
theorem wdt_le {n : Nat} (hn : s.blockingLeft = n) (hp : s.phase ≠ .p1) : s.world.wdt + n ≤ s.cfg.wdtPeriod :=
  hn ▸ h.room hp

/-- And after it. -/
theorem of_wdt_le {t : State} {n : Nat} (hcfg : t.cfg = s.cfg) (hcalm : t.world.calm = true) (hn : t.blockingLeft = n)
    (hroom : t.world.wdt + n ≤ s.cfg.wdtPeriod) : Roomy t :=
  ⟨hcfg ▸ h.shape, hcfg ▸ h.period, hcalm, fun _ => by rwa [State.slack, hn, hcfg]⟩

theorem step1 : Roomy (s.kick.setPhase .p2) := by
  have hperiod := h.period
  refine h.of_wdt_le rfl h.calm (State.blockingLeft_p2 rfl) ?_
  show 0 + (s.cfg.iterPeriod + s.cfg.worstBlocking) ≤ s.cfg.wdtPeriod
  omega

/-- The loop's own time is charged to step 2. -/
theorem step2 (hp : s.phase = .p2) : Roomy (s.wait s.cfg.iterPeriod).step2.nextPhase := by
  have hroom := h.wdt_le (State.blockingLeft_p2 hp) (by simp [hp])
  have hcalm : (s.wait s.cfg.iterPeriod).world.calm = true :=
    State.wait_calm h.calm (show s.world.wdt + s.cfg.iterPeriod ≤ s.cfg.wdtPeriod by omega)
  rw [State.step2_eq]
  refine h.of_wdt_le rfl hcalm (State.blockingLeft_p3 (congrArg Phase.next hp)) ?_
  show s.world.wdt + s.cfg.iterPeriod + s.cfg.worstBlocking ≤ s.cfg.wdtPeriod
  omega

/-- A pulse in step 3 cancels the off-delay, so that step 4 has none (rules R145, R178). -/
theorem step3 (hp : s.phase = .p3) : Roomy (s.step3 Engine.whole).nextPhase := by
  obtain ⟨u, hu, he⟩ := AmpEffect.step3 s
  obtain ⟨es, hframe⟩ := StepFrame.step3 s
  have hroom := h.wdt_le (State.blockingLeft_p3 hp) (by simp [hp])
  have hworst := s.cfg.worstBlocking_eq
  have hphase : (s.step3 Engine.whole).nextPhase.phase = .p4 := congrArg Phase.next (hframe.phase.trans hp)
  rw [he] at hphase ⊢
  refine h.of_wdt_le hu.cfg (hu.calm h.calm (show _ ≤ _ by omega)) (State.blockingLeft_p4 hphase) ?_
  show u.world.wdt + ((if u.offt = 1 then u.cfg.relayHold.toNat else 0) + u.cfg.longestCall + 121 * u.cfg.hpPerUnit) ≤ _
  rw [hu.cfg]
  rcases hu.wdt with hw | ⟨hw, hofft⟩
  · split <;> omega
  · rw [if_neg (by rw [hofft]; decide)]
    omega

/-- Step 4 pulses only where the off-delay fires. -/
theorem step4 (hp : s.phase = .p4) : Roomy (s.step4 Engine.whole).nextPhase := by
  have hu := AmpEffect.step4 s
  obtain ⟨es, hframe⟩ := StepFrame.step4 s
  have hroom := h.wdt_le (State.blockingLeft_p4 hp) (by simp [hp])
  have hphase : (s.step4 Engine.whole).nextPhase.phase = .p5 := congrArg Phase.next (hframe.phase.trans hp)
  have htime : (s.step4 Engine.whole).world.calm = true ∧ (s.step4 Engine.whole).world.wdt ≤
      s.world.wdt + (if s.offt = 1 then s.cfg.relayHold.toNat else 0) := by
    by_cases h1 : s.offt = 1
    · rw [if_pos h1] at hroom ⊢
      exact ⟨hu.calm h.calm (show _ ≤ _ by omega), hu.wdt_le⟩
    · rw [State.step4_eq, if_neg h1, if_neg h1]
      split
      · exact ⟨h.calm, Nat.le_refl _⟩
      · exact ⟨h.calm, Nat.le_refl _⟩
  obtain ⟨hcalm, hwdt⟩ := htime
  refine h.of_wdt_le hu.cfg hcalm (State.blockingLeft_p5 hphase) ?_
  show (s.step4 Engine.whole).world.wdt +
    ((s.step4 Engine.whole).cfg.longestCall + 121 * (s.step4 Engine.whole).cfg.hpPerUnit) ≤ _
  rw [hu.cfg]
  omega

theorem step5 (hp : s.phase = .p5) : Roomy (s.step5 Engine.whole).nextPhase := by
  obtain ⟨es, hframe⟩ := StepFrame.step5 s
  have hroom := h.wdt_le (State.blockingLeft_p5 hp) (by simp [hp])
  have hphase : (s.step5 Engine.whole).nextPhase.phase = .p6 := congrArg Phase.next (hframe.phase.trans hp)
  have hcfg : (s.step5 Engine.whole).nextPhase.cfg = s.cfg := (Grows.step5 s Engine.whole_good).cfg
  have hwdt : (s.step5 Engine.whole).nextPhase.world.wdt ≤ s.world.wdt + s.cfg.longestCall :=
    State.dispatchSerial_wdt_le (s := s.pollSerial) h.shape _
  have hcalm : (s.step5 Engine.whole).nextPhase.world.calm = true :=
    State.dispatchSerial_calm (s := s.pollSerial) h.shape h.calm
      (show s.world.wdt + s.cfg.longestCall ≤ s.cfg.wdtPeriod by omega) _
  refine h.of_wdt_le hcfg hcalm (State.blockingLeft_p6 hphase) ?_
  rw [hcfg]
  omega

theorem step6 (hp : s.phase = .p6) : Roomy s.step6.nextPhase := by
  obtain ⟨es, hframe⟩ := StepFrame.step6 s
  have hroom := h.wdt_le (State.blockingLeft_p6 hp) (by simp [hp])
  have hphase : s.step6.nextPhase.phase = .p7 := congrArg Phase.next (hframe.phase.trans hp)
  have hcfg : s.step6.nextPhase.cfg = s.cfg := (Grows.step6 s).cfg
  have hworld : s.step6.nextPhase.world = s.world := s.step6_world
  refine h.of_wdt_le hcfg (hworld ▸ h.calm) (State.blockingLeft_p7 hphase) ?_
  rwa [hworld, hcfg]

/-- After step 7 the watchdog is serviced before anything else. -/
theorem step7 (hp : s.phase = .p7) : Roomy (s.step7 Engine.whole).nextPhase := by
  obtain ⟨es, hframe⟩ := StepFrame.step7 s
  have hroom := h.wdt_le (State.blockingLeft_p7 hp) (by simp [hp])
  have hphase : (s.step7 Engine.whole).nextPhase.phase = .p1 := congrArg Phase.next (hframe.phase.trans hp)
  have hcfg : (s.step7 Engine.whole).nextPhase.cfg = s.cfg := (Grows.step7 s Engine.whole_good).cfg
  have hcalm : (s.step7 Engine.whole).world.calm = true := by
    cases hr : s.world.decoder.report with
    | none =>
      rw [State.step7_of_no_report _ hr]
      exact h.calm
    | some r =>
      rw [State.step7_of_report _ hr]
      exact State.dispatchRecord_calm (s := (s.takeRecord r).rearm) h.shape h.calm hroom r
  exact ⟨hcfg ▸ h.shape, hcfg ▸ h.period, hcalm, fun hne => absurd hphase hne⟩

/-- The seven steps keep to the time that is left. -/
theorem phaseBody (hstall : s.world.stall = 0) (hb : s.phase ≠ .busy) : Roomy (s.startStep.phaseBody Engine.whole) := by
  have hstart (h2 : s.phase ≠ .p2) : s.startStep = s := s.startStep_of_no_time hstall (State.loopTime_of_ne_p2 h2)
  cases hp : s.phase
  case p1 => rw [hstart (by simp [hp]), State.phaseBody_p1 _ hp]; exact h.step1
  case p2 =>
    have htime : s.loopTime = s.cfg.iterPeriod := if_pos hp
    have hwait : s.startStep = s.wait s.cfg.iterPeriod := by
      rw [State.startStep, if_neg hb, htime, hstall, Nat.zero_add, ← hstall]
    rw [hwait, State.phaseBody_p2 (s := s.wait s.cfg.iterPeriod) _ hp]
    exact h.step2 hp
  case p3 => rw [hstart (by simp [hp]), State.phaseBody_p3 _ hp]; exact h.step3 hp
  case p4 => rw [hstart (by simp [hp]), State.phaseBody_p4 _ hp]; exact h.step4 hp
  case p5 => rw [hstart (by simp [hp]), State.phaseBody_p5 _ hp]; exact h.step5 hp
  case p6 => rw [hstart (by simp [hp]), State.phaseBody_p6 _ hp]; exact h.step6 hp
  case p7 => rw [hstart (by simp [hp]), State.phaseBody_p7 _ hp]; exact h.step7 hp
  case busy => exact absurd hp hb

/-- The world brings no reset: the time that is left stays. -/
theorem advance {x : Stimulus} {todo : List Stimulus} (hx : s.world.pending = x :: todo) (hrst : x.rst = none) :
    Roomy s.advance := by
  rw [State.advance_of_pending_cons s x todo hx]
  obtain ⟨hrstAt, htrip⟩ := (World.calm_iff _).mp h.calm
  exact ⟨h.shape, h.period, (World.calm_iff _).mpr ⟨by simp [World.absorb, hrst, hrstAt], htrip⟩, h.room⟩

end Roomy

/-! ### The serial commands -/

/-- The map of rule R72 gives no command to an ignored byte (rule R81). -/
theorem serialCommand_of_not_command {b : Byte} (h : b ∉ serialCommandBytes) : serialCommand (some b) = none := by
  revert b
  decide +kernel

/-- What step 5 does for each command (rule R165). -/
def State.runCommand (e : Engine) (s : State) : Option Command → State
  | none => s
  | some .ampOn => s.ampOn e.pulse
  | some .ampOff => s.ampOff e.pulse
  | some .ampOffDelay => s.ampOffDelay
  | some .mute => s.mute e.send
  | some .volumeUp => s.volumeUp e.send
  | some .volumeDown => s.volumeDown e.send

/-- The dispatcher of step 5 runs the byte's command (rules R72, R165). -/
theorem State.dispatchSerial_eq_runCommand (s : State) (e : Engine) (p : Option Byte) :
    s.dispatchSerial e p = s.runCommand e (serialCommand p) := by
  cases p with
  | none => rfl
  | some b =>
    by_cases hb : b ∈ serialCommandBytes
    · simp only [serialCommandBytes, List.mem_cons, List.not_mem_nil, or_false] at hb
      rcases hb with rfl | rfl | rfl | rfl | rfl | rfl | rfl | rfl | rfl | rfl | rfl | rfl <;> rfl
    · rw [State.dispatchSerial_of_not_command s e hb, serialCommand_of_not_command hb]
      rfl

/-! ### The context and the events -/

/-- The machine shows the context of `p`, and has emitted the events of `p` beyond `es` (rule R176). -/
structure Tracks (es : List Event) (s : State) (p : Progress) : Prop where
  trace : s.trace = es ++ p.2
  context : s.context = p.1

namespace Tracks

variable {es : List Event} {s : State} {p : Progress} (h : Tracks es s p)
include h

theorem append {t : State} {x : Context} {fs : List Event} (ht : t.trace = s.trace ++ fs) (hx : t.context = x) :
    Tracks es t (x, p.2 ++ fs) := ⟨by rw [ht, h.trace, List.append_assoc], hx⟩

theorem same {t : State} (ht : t.trace = s.trace) (hx : t.context = s.context) : Tracks es t p :=
  ⟨ht.trans h.trace, hx.trans h.context⟩

theorem advance : Tracks es s.advance p := h.same s.advance_trace (by simp [State.context])

theorem startStep : Tracks es s.startStep p := h.same s.startStep_trace (by simp [State.context])

theorem nextPhase : Tracks es s.nextPhase p := h.same rfl rfl

theorem setOfft (v : Timer) : Tracks es (s.setOfft v) ({ p.1 with offt := v }, p.2) :=
  ⟨h.trace, congrArg (fun x : Context => { x with offt := v }) h.context⟩

theorem ampOn : Tracks es (s.ampOn State.relayPulse) (p.ampOn s.cfg s.ampSense) := by
  have hx := congrArg (fun x : Context => { x with offt := 0 }) h.context
  rw [State.ampOn_whole]
  cases s.ampSense
  · exact h.append rfl hx
  · exact h.append rfl hx

theorem ampOff : Tracks es (s.ampOff State.relayPulse) (p.ampOff s.cfg s.ampSense) := by
  have hx := congrArg (fun x : Context => { x with offt := 0 }) h.context
  rw [State.ampOff_whole]
  cases s.ampSense
  · exact h.append rfl hx
  · exact h.append rfl hx

/-- One command frame, unit by unit (rules R77, R111). -/
theorem transmit (hf : s.cfg.frameShape = true) (k : Byte) :
    Tracks es (s.transmit s.cfg.necAddr k) (p.send s.cfg k) := by
  rw [State.transmit_of_frameShape hf]
  exact h.append rfl h.context

/-! ### Each step -/

theorem step3 : Tracks es (s.step3 Engine.whole) (p.step3 s.cfg s.srcSense s.ampSense) := by
  have hprev : p.1.srcPrev = s.srcPrev := (congrArg Context.srcPrev h.context).symm
  have hsrc {t : State} {q : Progress} (ht : Tracks es t q) (b : Bool) :
      Tracks es (t.setSrcPrev b) ({ q.1 with srcPrev := b }, q.2) :=
    ⟨ht.trace, congrArg (fun x : Context => { x with srcPrev := b }) ht.context⟩
  unfold Progress.step3
  rw [hprev]
  cases hp : s.srcPrev <;> cases hs : s.srcSense
  · rw [State.step3_of_level s (hs.trans hp.symm), hs]
    exact (hsrc h false).same rfl rfl
  · rw [State.step3_of_rise s hp hs]
    exact hsrc h.ampOn true
  · rw [State.step3_of_fall s hp hs]
    exact (hsrc (h.setOfft _) false).same rfl rfl
  · rw [State.step3_of_level s (hs.trans hp.symm), hs]
    exact (hsrc h true).same rfl rfl

theorem step4 : Tracks es (s.step4 Engine.whole) (p.step4 s.cfg s.ampSense) := by
  have hofft : s.offt = p.1.offt := congrArg Context.offt h.context
  rw [State.step4_eq, Progress.step4, hofft]
  split
  · exact h
  · split
    · exact h.ampOff
    · exact h.setOfft _

theorem step6 : Tracks es s.step6 p.step6 := by
  have hledt : s.ledt = p.1.ledt := congrArg Context.ledt h.context
  rw [State.step6_eq, Progress.step6, hledt]
  split
  · exact h
  · split
    · exact h.append rfl (congrArg (fun x : Context => { x with ledt := 0, led := false }) h.context)
    · exact ⟨h.trace, congrArg (fun x : Context => { x with ledt := p.1.ledt - 1 }) h.context⟩

theorem runCommand (hf : s.cfg.frameShape = true) {b : Option Byte} :
    Tracks es (s.runCommand Engine.whole (serialCommand b)) (p.step5 s.cfg b s.ampSense) := by
  rw [Progress.step5]
  cases serialCommand b with
  | none => exact h
  | some k =>
    cases k with
    | ampOn => exact h.ampOn
    | ampOff => exact h.ampOff
    | ampOffDelay => exact h.setOfft _
    | mute => exact h.transmit hf _
    | volumeUp => exact h.transmit hf _
    | volumeDown => exact h.transmit hf _

theorem step5 (hf : s.cfg.frameShape = true) :
    Tracks es (s.step5 Engine.whole) (p.step5 s.cfg s.world.serial s.ampSense) := by
  have hpoll : Tracks es s.pollSerial p := h.same rfl rfl
  rw [State.step5, State.dispatchSerial_eq_runCommand]
  exact hpoll.runCommand hf

/-- A record, once it is copied and the decoder re-armed (rules R169 to R172). -/
theorem step7 (hf : s.cfg.frameShape = true) : Tracks es (s.step7 Engine.whole) (p.step7 s.cfg s.world.decoder.report) := by
  cases hr : s.world.decoder.report with
  | none =>
    rw [State.step7_of_no_report _ hr]
    exact h
  | some r =>
    have hrearm : Tracks es (s.takeRecord r).rearm (p.1, p.2 ++ [.rcRearm]) := h.append rfl h.context
    have hled : Tracks es (s.takeRecord r).rearm.armLed
        ({ p.1 with ledt := s.cfg.ledTicks, led := true }, p.2 ++ [.rcRearm, .led true]) :=
      h.append (List.append_assoc _ _ _)
        (congrArg (fun x : Context => { x with ledt := s.cfg.ledTicks, led := true }) h.context)
    rw [State.step7_of_report _ hr]
    unfold State.dispatchRecord Progress.step7
    simp only [bne_iff_ne, beq_iff_eq, ite_not, ne_eq, State.rearm_cfg, State.takeRecord_cfg]
    repeat' split
    · exact hled.transmit hf _
    · exact hled.transmit hf _
    · exact hled.transmit hf _
    · exact hled.append rfl hled.context
    · exact h.append (List.append_assoc _ _ _) h.context
    · exact h.append (List.append_assoc _ _ _) h.context

end Tracks

/-- Step 2, after the service of step 1 (rules R161, R162). -/
theorem Tracks.step2 {es : List Event} {s : State} {p : Progress} (h : Tracks es s (p.1, p.2 ++ [.wdtKick])) :
    Tracks es s.step2 (p.steps12 s.ampSense) := by
  have hprev : p.1.ampPrev = s.ampPrev := (congrArg Context.ampPrev h.context).symm
  have hx := congrArg (fun x : Context => { x with ampPrev := s.ampSense }) h.context
  rw [State.step2_eq, Progress.steps12, hprev]
  by_cases hsame : s.ampSense = s.ampPrev
  · rw [if_pos hsame, if_pos hsame]
    have hamp : (s.setAmpPrev s.ampSense).context = s.context := by rw [hsame]; rfl
    exact h.same (List.append_nil _) hamp
  · rw [if_neg hsame, if_neg hsame]
    have ht := h.append (t := ((s.emits [.log (.ampState s.ampSense)]).setAmpPrev s.ampSense).withSampled s.ampSense) rfl hx
    rwa [List.append_assoc] at ht

/-! ### The decoder -/

/-- The decoder takes and reports records (rules R48, R231). -/
def Decoder.ready (d : Decoder) : Prop := d.initialised = true ∧ d.armed = true

theorem State.transmit_decoder (s : State) (a k : Byte) : (s.transmit a k).world.decoder = s.world.decoder := by
  obtain ⟨f, us, hus⟩ := s.transmit_eq_sent a k
  rw [hus]
  rfl

theorem State.dispatchSerial_decoder (s : State) (p : Option Byte) :
    (s.dispatchSerial Engine.whole p).world.decoder = s.world.decoder := by
  rcases s.dispatchSerial_cases p with ht | ⟨k, ht⟩
  · exact ht.decoder
  · rw [ht, State.transmit_decoder]

theorem State.dispatchRecord_decoder (s : State) (r : RcRecord) :
    (s.dispatchRecord Engine.whole r).world.decoder = s.world.decoder := by
  rcases s.dispatchRecord_cases r with ⟨e, he⟩ | ⟨e, he⟩ | ⟨k, he⟩ <;> rw [he]
  · rfl
  · rfl
  · exact s.armLed.transmit_decoder _ _

/-- A step leaves a decoder that is ready so: only step 7 polls it, and re-arms it at once (rule R48). -/
theorem State.phaseBody_ready {s : State} (h : s.world.decoder.ready) (hb : s.phase ≠ .busy) :
    (s.phaseBody Engine.whole).world.decoder.ready := by
  have hsame {t : State} (ht : t.world.decoder = s.world.decoder) : t.world.decoder.ready := ht ▸ h
  cases hp : s.phase
  case p1 => rw [State.phaseBody_p1 _ hp]; exact hsame rfl
  case p2 => rw [State.phaseBody_p2 _ hp, State.step2_eq]; exact hsame rfl
  case p3 =>
    obtain ⟨u, hu, he⟩ := AmpEffect.step3 s
    rw [State.phaseBody_p3 _ hp, he]
    exact hsame hu.decoder
  case p4 => rw [State.phaseBody_p4 _ hp]; exact hsame (AmpEffect.step4 s).decoder
  case p5 =>
    rw [State.phaseBody_p5 _ hp]
    exact hsame (s.pollSerial.dispatchSerial_decoder _)
  case p6 => rw [State.phaseBody_p6 _ hp]; exact hsame (congrArg World.decoder s.step6_world)
  case p7 =>
    rw [State.phaseBody_p7 _ hp]
    cases hr : s.world.decoder.report with
    | none => rw [State.step7_of_no_report _ hr]; exact h
    | some r =>
      obtain ⟨hinit, -⟩ := h
      have hrearm : (s.takeRecord r).rearm.world.decoder.ready := ⟨hinit, rfl⟩
      rw [State.step7_of_report _ hr]
      exact (congrArg Decoder.ready ((s.takeRecord r).rearm.dispatchRecord_decoder r)).mpr hrearm
  case busy => exact absurd hp hb

/-! ### The world moves on -/

section
variable {s : State} {x : Stimulus} {todo : List Stimulus} (hx : s.world.pending = x :: todo)
include hx

theorem State.advance_ampSense_of {b : Bool} (h : x.ampPin = some (throughPolarity s.cfg.ampSensePol b)) :
    s.advance.ampSense = b := by
  simp [State.advance_of_pending_cons s x todo hx, State.ampSense, World.absorb, h]

theorem State.advance_srcSense_of {b : Bool} (h : x.srcPin = some (throughPolarity s.cfg.srcSensePol b)) :
    s.advance.srcSense = b := by
  simp [State.advance_of_pending_cons s x todo hx, State.srcSense, World.absorb, h]

theorem State.advance_serial_of {b : Option Byte} (h : x.serial = some b) : s.advance.world.serial = b := by
  simp [State.advance_of_pending_cons s x todo hx, World.absorb, h]

theorem State.advance_report_of {r : Option RcRecord} (h : x.record = some r) (hd : s.world.decoder.ready) :
    s.advance.world.decoder.report = r := by
  obtain ⟨hinit, harmed⟩ := hd
  simp [State.advance_of_pending_cons s x todo hx, World.absorb, h, Decoder.report, hinit, harmed]

theorem State.advance_stall : s.advance.world.stall = x.stall := by
  rw [State.advance_of_pending_cons s x todo hx]
  rfl

theorem State.advance_pending : s.advance.world.pending = todo := by
  rw [State.advance_of_pending_cons s x todo hx]

end

@[simp] theorem State.startStep_pending (s : State) : s.startStep.world.pending = s.world.pending := by
  unfold State.startStep; split <;> rfl

/-! ### The pass -/

/-- The world moves on, and the step of the loop that is next runs. -/
def State.onward (s : State) : State := s.advance.startStep.phaseBody Engine.whole

/-- A pass that began in `base` is about to perform step `ph`, once the world has moved on: it has come to `p`, and `todo` is
what the world will do. -/
structure Pass (base : State) (ph : Phase) (s : State) (p : Progress) (todo : List Stimulus) : Prop where
  phase : s.phase = ph
  cfg : s.cfg = base.cfg
  resets : s.resets = base.resets
  pending : s.world.pending = todo
  ready : s.world.decoder.ready
  roomy : Roomy s
  tracks : Tracks base.trace s p

namespace Pass

variable {base s : State} {ph : Phase} {p q : Progress} {x : Stimulus} {todo : List Stimulus}

/-- One step, whatever it does to the context and the trace. -/
theorem run (h : Pass base ph s p todo) (hstall : s.world.stall = 0) (hb : ph ≠ .busy)
    (ht : Tracks base.trace (s.startStep.phaseBody Engine.whole) q) :
    Pass base ph.next (s.startStep.phaseBody Engine.whole) q todo := by
  obtain ⟨rfl, hcfg, hresets, hpending, hready, hroomy, -⟩ := h
  have hgrows := Grows.phaseBody s.startStep Engine.whole_good
  have hb' : s.startStep.phase ≠ .busy := by rwa [State.startStep_phase]
  refine ⟨?_, (hgrows.cfg.trans s.startStep_cfg).trans hcfg, (hgrows.resets.trans s.startStep_resets).trans hresets,
    (hgrows.pending.trans s.startStep_pending).trans hpending, ?_, hroomy.phaseBody hstall hb, ht⟩
  · rw [State.phaseBody_phase _ hb', State.startStep_phase]
  · exact State.phaseBody_ready (by rwa [State.startStep_decoder]) hb'

/-- The world moves on without a reset or a stall. -/
theorem advance (h : Pass base ph s p (x :: todo)) (hrst : x.rst = none) : Pass base ph s.advance p todo := by
  obtain ⟨hphase, hcfg, hresets, hpending, ⟨hinit, harmed⟩, hroomy, htracks⟩ := h
  obtain ⟨harmed', hinit'⟩ := s.advance_decoder harmed
  exact ⟨s.advance_phase.trans hphase, s.advance_cfg.trans hcfg, s.advance_resets.trans hresets,
    State.advance_pending hpending, ⟨hinit'.trans hinit, harmed'⟩, hroomy.advance hpending hrst, htracks.advance⟩

theorem onward (h : Pass base ph s p (x :: todo)) (hb : ph ≠ .busy) (hrst : x.rst = none) (hstall : x.stall = 0)
    (ht : Tracks base.trace s.onward q) : Pass base ph.next s.onward q todo :=
  (h.advance hrst).run ((State.advance_stall h.pending).trans hstall) hb ht

/-! ### The seven steps, by what the world shows before each (rule R57) -/

/-- Step 2, with the service of step 1 in the trace. -/
theorem step2 {amp : Bool} (h : Pass base .p2 s (p.1, p.2 ++ [.wdtKick])
      ({ ampPin := some (throughPolarity base.cfg.ampSensePol amp) } :: todo)) :
    Pass base .p3 s.onward (p.steps12 amp) todo := by
  refine h.onward (by decide) rfl rfl ?_
  have hamp : s.advance.startStep.ampSense = amp :=
    s.advance.startStep_ampSense.trans (State.advance_ampSense_of h.pending (by rw [h.cfg]))
  rw [State.onward, State.phaseBody_p2 _ (by simpa using h.phase), ← hamp]
  exact h.tracks.advance.startStep.step2.nextPhase

theorem step3 {amp src : Bool} (h : Pass base .p3 s p
      ({ ampPin := some (throughPolarity base.cfg.ampSensePol amp),
         srcPin := some (throughPolarity base.cfg.srcSensePol src) } :: todo)) :
    Pass base .p4 s.onward (p.step3 base.cfg src amp) todo := by
  refine h.onward (by decide) rfl rfl ?_
  have ht := h.tracks.advance.startStep.step3.nextPhase
  rw [State.startStep_cfg, State.advance_cfg, h.cfg, State.startStep_srcSense, State.startStep_ampSense,
    State.advance_srcSense_of h.pending (by rw [h.cfg]), State.advance_ampSense_of h.pending (by rw [h.cfg])] at ht
  rwa [State.onward, State.phaseBody_p3 _ (by simpa using h.phase)]

theorem step4 {amp : Bool} (h : Pass base .p4 s p
      ({ ampPin := some (throughPolarity base.cfg.ampSensePol amp) } :: todo)) :
    Pass base .p5 s.onward (p.step4 base.cfg amp) todo := by
  refine h.onward (by decide) rfl rfl ?_
  have ht := h.tracks.advance.startStep.step4.nextPhase
  rw [State.startStep_cfg, State.advance_cfg, h.cfg, State.startStep_ampSense,
    State.advance_ampSense_of h.pending (by rw [h.cfg])] at ht
  rwa [State.onward, State.phaseBody_p4 _ (by simpa using h.phase)]

theorem step5 {amp : Bool} {ser : Option Byte} (h : Pass base .p5 s p
      ({ ampPin := some (throughPolarity base.cfg.ampSensePol amp), serial := some ser } :: todo)) :
    Pass base .p6 s.onward (p.step5 base.cfg ser amp) todo := by
  refine h.onward (by decide) rfl rfl ?_
  have ht := (h.tracks.advance.startStep.step5 (by simpa using h.roomy.shape)).nextPhase
  rw [State.startStep_cfg, State.advance_cfg, h.cfg, State.startStep_serial, State.advance_serial_of h.pending rfl,
    State.startStep_ampSense, State.advance_ampSense_of h.pending (by rw [h.cfg])] at ht
  rwa [State.onward, State.phaseBody_p5 _ (by simpa using h.phase)]

theorem step6 (h : Pass base .p6 s p ({} :: todo)) : Pass base .p7 s.onward p.step6 todo := by
  refine h.onward (by decide) rfl rfl ?_
  rw [State.onward, State.phaseBody_p6 _ (by simpa using h.phase)]
  exact h.tracks.advance.startStep.step6.nextPhase

theorem step7 {rc : Option RcRecord} (h : Pass base .p7 s p ({ record := some rc } :: todo)) :
    Pass base .p1 s.onward (p.step7 base.cfg rc) todo := by
  refine h.onward (by decide) rfl rfl ?_
  have ht := (h.tracks.advance.startStep.step7 (by simpa using h.roomy.shape)).nextPhase
  rw [State.startStep_cfg, State.advance_cfg, h.cfg, State.startStep_decoder,
    State.advance_report_of h.pending rfl h.ready] at ht
  rwa [State.onward, State.phaseBody_p7 _ (by simpa using h.phase)]

end Pass

/-- A step of a pass that no reset is on its way to hands over to the next. -/
theorem State.runPhases_of_calm {s : State} (n : Nat) (hc : s.world.calm = true)
    (hc' : (s.startStep.phaseBody Engine.whole).world.calm = true) :
    State.runPhases (n + 2) s = State.runPhases (n + 1) (s.startStep.phaseBody Engine.whole).advance := by
  have hresets : (s.startStep.phaseBody Engine.whole).resets = s.resets :=
    (Grows.phaseBody s.startStep Engine.whole_good).resets.trans s.startStep_resets
  rw [State.runPhases, State.under_of_calm hc hc']
  exact if_pos hresets

namespace Pass

variable {base s : State} {ph ph' : Phase} {p q : Progress} {x : Stimulus} {todo : List Stimulus}

/-- A step of the pass is one of `ITERATE`'s. -/
theorem runPhases (h : Pass base ph s p (x :: todo)) (hrst : x.rst = none) (h' : Pass base ph' s.onward q todo) (n : Nat) :
    State.runPhases (n + 2) s.advance = State.runPhases (n + 1) s.onward.advance :=
  State.runPhases_of_calm n (h.advance hrst).roomy.calm h'.roomy.calm

/-- So is the last one. -/
theorem runPhases_one (h : Pass base ph s p (x :: todo)) (hrst : x.rst = none) (h' : Pass base ph' s.onward q todo) :
    State.runPhases 1 s.advance = s.onward :=
  State.under_of_calm (h.advance hrst).roomy.calm h'.roomy.calm

/-- An iteration in a world that shows the inputs `u` comes to the context and the events of the pure function. -/
theorem iterate {u : Inputs} {rest : List Stimulus}
    (h : Pass s .p1 (s.setPhase .p1) (s.context, []) (u.script s.cfg ++ rest)) (hstall : s.world.stall = 0) :
    Pass s .p1 s.iterate (pureIterate s.cfg s.context u) rest := by
  have hkick : Tracks s.trace ((s.setPhase .p1).startStep.phaseBody Engine.whole) (s.context, [] ++ [.wdtKick]) := by
    rw [State.phaseBody_p1 _ (s.setPhase .p1).startStep_phase]
    exact h.tracks.startStep.append rfl h.tracks.startStep.context
  have h1 := h.run hstall (by decide) hkick
  have h2 := Pass.step2 (p := (s.context, [])) (amp := u.amp2) h1
  have h3 := h2.step3
  have h4 := h3.step4
  have h5 := h4.step5
  have h6 := h5.step6
  have h7 := h6.step7
  rw [State.iterate, State.runPhases_of_calm 5 h.roomy.calm h1.roomy.calm, h1.runPhases rfl h2, h2.runPhases rfl h3,
    h3.runPhases rfl h4, h4.runPhases rfl h5, h5.runPhases rfl h6, h6.runPhases_one rfl h7]
  exact h7

end Pass

/-- Settles O42: each step tracks its line of the pseudocode, and the watchdog leaves room for all seven. -/
theorem iterateImplementsPure : Obligations.IterateImplementsPure := by
  intro s u rest hshape hcalm hstall hpending hinit harmed hperiod
  have hroomy : Roomy (s.setPhase .p1) := ⟨hshape, hperiod, hcalm, fun hne => absurd rfl hne⟩
  have hstart : Tracks s.trace (s.setPhase .p1) (s.context, []) := ⟨(List.append_nil _).symm, rfl⟩
  have h : Pass s .p1 s.iterate (pureIterate s.cfg s.context u) rest :=
    Pass.iterate ⟨rfl, rfl, rfl, hpending, ⟨hinit, harmed⟩, hroomy, hstart⟩ hstall
  have hevents : s.newEvents s.iterate = (pureIterate s.cfg s.context u).2 := State.newEvents_of_append _ _ _ h.tracks.trace
  refine ⟨s.iterate, rfl, h.tracks.context, by rw [hevents], ?_, h.resets, h.phase, h.pending⟩
  rw [hevents]

end Sys2Proof.Machine

/-! PROOFS. The encoding: each wire back from the instruction it decodes to, and what the decoded instructions do (rules R70 to
R76, R81, R83, R150 to R153, R169 to R172). -/

namespace Sys2Proof.Machine

/-! ### Decoder and encoder -/

/-- Settles O1: row by row; rule R232 keeps the three mapped commands apart. -/
theorem decodeInvertsEncode : Obligations.DecodeInvertsEncode := fun _ _ hc hi => decode_encode hc hi

/-- A serial poll is the encoding of the instruction that it decodes to (rules R72, R81). -/
theorem encode_decodeSerial (c : Config) (p : Option Byte) :
    wellFormed c (decodeSerial p) = true ∧ encode c (decodeSerial p) = .ser8 p := by
  cases p with
  | none => exact ⟨rfl, rfl⟩
  | some b =>
    rcases decodeSerial_cases b with ⟨hb, -⟩ | ⟨hb, hd⟩
    · simp only [serialCommandBytes, List.mem_cons, List.not_mem_nil, or_false] at hb
      rcases hb with rfl | rfl | rfl | rfl | rfl | rfl | rfl | rfl | rfl | rfl | rfl | rfl <;> exact ⟨rfl, rfl⟩
    · rw [hd]
      exact ⟨by simpa [wellFormed, serialIgnored] using hb, rfl⟩

/-- A record is the encoding of the row of rule R74 that it meets. -/
theorem encode_decodeRecord (c : Config) (r : RcRecord) :
    wellFormed c (decodeRecord c r) = true ∧ encode c (decodeRecord c r) = .rcrec r := by
  obtain ⟨startbits, addr, cmd, toggle⟩ := r
  rcases decodeRecord_cases c ⟨startbits, addr, cmd, toggle⟩ with ⟨hb, hi⟩ | ⟨rfl, ha, hi⟩ |
    ⟨rfl, rfl, ⟨rfl, hi⟩ | ⟨-, rfl, hi⟩ | ⟨-, -, rfl, hi⟩ | ⟨hc, hi⟩⟩ <;> rw [hi]
  · exact ⟨bne_iff_ne.mpr hb, rfl⟩
  · exact ⟨bne_iff_ne.mpr ha, rfl⟩
  · exact ⟨rfl, rfl⟩
  · exact ⟨rfl, rfl⟩
  · exact ⟨rfl, rfl⟩
  · exact ⟨hc, rfl⟩

/-- A frame is its four fields, joined (rule R75). -/
theorem frame_eq_append_fields (f : Frame) : frameA f ++ frameNA f ++ frameC f ++ frameNC f = f := by
  apply BitVec.eq_of_getLsbD_eq
  intro i hi
  simp only [frameA, frameNA, frameC, frameNC, BitVec.getLsbD_append, BitVec.getLsbD_extractLsb']
  split_ifs with hnc hc hna
  · simp [hnc]
  · simp [hc, show 8 + (i - 8) = i by omega]
  · simp [hna, show 16 + (i - 8 - 8) = i by omega]
  · simp [show i - 8 - 8 - 8 < 8 by omega, show 24 + (i - 8 - 8 - 8) = i by omega]

/-- A frame that the block can emit is the frame of its two data bytes (rules R75, R83). -/
theorem frameOfBytes_of_isNecFrame {f : Frame} (h : isNecFrame f = true) : frameOfBytes (frameA f) (frameC f) = f := by
  simp only [isNecFrame, Bool.and_eq_true, beq_iff_eq] at h
  obtain ⟨hna, hnc⟩ := h
  rw [frameOfBytes, ← hna, ← hnc, frame_eq_append_fields]

/-- Settles O2: format by format, the fields that the decoder read are those that the encoder writes. -/
theorem encodeInvertsDecode : Obligations.EncodeInvertsDecode := by
  intro c w i h
  cases w with
  | ser8 p =>
    obtain rfl := Except.ok.inj h
    exact encode_decodeSerial c p
  | rcrec r =>
    obtain rfl := Except.ok.inj h
    exact encode_decodeRecord c r
  | nec32 f =>
    rcases decodeFrame_cases f with ⟨hnec, hd⟩ | ⟨-, hd⟩
    · obtain rfl := Except.ok.inj (hd.symm.trans h)
      exact ⟨rfl, congrArg Wire.nec32 (frameOfBytes_of_isNecFrame hnec)⟩
    · cases hd.symm.trans h
  | internal op =>
    obtain rfl := Except.ok.inj h
    cases op <;> exact ⟨rfl, rfl⟩

/-- Settles O3, by evaluating the decoder. -/
theorem wordsDecode : Obligations.WordsDecode := by
  unfold Obligations.WordsDecode
  decide

/-- Settles O7: bit by bit the shifts join the bytes, and the complement of eight bits is 255 less the byte. -/
theorem frameConstruction : Obligations.FrameConstruction := by
  intro a k
  have hnot (b : Byte) : ~~~b = 255 - b := (complement8_eq_not b).symm
  rw [necFrame_eq_frameOfBytes, ← hnot, ← hnot]
  exact ⟨rfl, by simp [isNecFrame], frameA_frameOfBytes a k, frameNA_frameOfBytes a k, frameC_frameOfBytes a k,
    frameNC_frameOfBytes a k⟩

/-! ### The dispatchers -/

/-- Settles O5: each of the twelve bytes selects its operation in both, any other byte none. -/
theorem serialDispatchAgrees : Obligations.SerialDispatchAgrees := exec_decodeSerial

/-- Settles O6: both take the decisions of rule R74 in the same order. -/
theorem recordDispatchAgrees : Obligations.RecordDispatchAgrees := exec_decodeRecord

/-! ### Ignored bytes -/

/-- The serial commands are ASCII characters, so a byte from 0x80 on is none (rules R72, R81). -/
theorem serialIgnored_of_ge {b : Byte} (h : 0x80 ≤ b) : serialIgnored (some b) = true := by
  have hascii : ∀ x ∈ serialCommandBytes, x < 0x80 := by decide
  have hb : b ∉ serialCommandBytes := fun hmem => BitVec.not_lt.mpr h (hascii b hmem)
  simpa [serialIgnored] using hb

/-- The dispatcher of step 5 does nothing for an ignored poll (rule R81). -/
theorem State.dispatchSerial_of_serialIgnored (s : State) (e : Engine) {p : Option Byte} (h : serialIgnored p = true) :
    s.dispatchSerial e p = s := by
  cases p with
  | none => exact s.dispatchSerial_none e
  | some b => exact s.dispatchSerial_of_not_command e (by simpa [serialIgnored] using h)

/-- Settles O4: the step is the poll and the move to step 6. -/
theorem otherBytesIgnored : Obligations.OtherBytesIgnored := by
  refine ⟨fun _ => decodeSerial_of_serialIgnored, rfl, fun _ => serialIgnored_of_ge, by decide +kernel, fun _ _ => rfl, ?_⟩
  intro s hp h hign
  obtain ⟨hcalm, -⟩ := State.startStep_calm h
  have hp' : s.startStep.phase = .p5 := s.startStep_phase.trans hp
  have hstep5 : s.startStep.step5 Engine.whole = s.startStep.pollSerial :=
    State.dispatchSerial_of_serialIgnored _ _ (by rwa [State.pollSerial_serLat, State.startStep_serial])
  have hbody : s.startStep.phaseBody Engine.whole = s.startStep.pollSerial.setPhase .p6 := by
    rw [State.phaseBody_p5 _ hp', hstep5]
    exact State.nextPhase_eq_setPhase (s := s.startStep.pollSerial) hp'
  refine ⟨_, step_of_undisturbed_body h (by simp [hp]) (by simp [hp]) hbody hcalm, ?_⟩
  simp [State.context]

/-! ### Every step answers -/

/-- Only a host's call brings a 32-bit value to the decoder (rules R50, R70). -/
theorem State.fetch_eq_nec32 {s : State} {f : Frame} (h : s.fetch = some (.nec32 f)) :
    s.phase = .p1 ∧ s.world.hostCall = some (.nec32 f) := by
  unfold State.fetch at h
  split at h
  case h_1 hp =>
    obtain ⟨k, hk, hw⟩ := Option.map_eq_some_iff.mp h
    cases k <;> cases hw
    exact ⟨hp, hk⟩
  case h_2 => cases h
  case h_3 =>
    obtain ⟨r, -, hw⟩ := Option.map_eq_some_iff.mp h
    cases hw
  case h_4 => cases h

/-- Settles O52: an instruction answers always, so the one thing that can stop a step is a wire that does not decode. -/
theorem stepAlwaysAnswers : Obligations.StepAlwaysAnswers := by
  intro s
  cases hd : s.resetDue with
  | true => exact .inl ⟨_, by rw [step, if_pos hd]⟩
  | false =>
    cases hf : s.fetch with
    | none =>
      have hf' : s.startStep.fetch = none := s.startStep_fetch.trans hf
      exact .inl ⟨_, by simp only [step, hd, State.stepBody, hf', Bool.false_eq_true, if_false]; rfl⟩
    | some w =>
      have hf' : s.startStep.fetch = some w := s.startStep_fetch.trans hf
      cases hi : decode s.cfg w with
      | ok i =>
        obtain ⟨t, ht⟩ := exec_next i s.startStep.issue
        exact .inl ⟨_, step_of_decode s t w i hd hf' hi ht⟩
      | error e =>
        obtain ⟨f, rfl, hnec, rfl⟩ := decode_error s.cfg w e hi
        obtain ⟨hp, hc⟩ := State.fetch_eq_nec32 hf
        refine .inr ⟨f, hp, hc, hnec, ?_⟩
        simp only [step, hd, State.stepBody, hf', State.startStep_cfg, hi, Bool.false_eq_true, if_false]

end Sys2Proof.Machine

/-! PROOFS. The two frames, unit by unit, and the commands that send one or none (rules R77, R79, R112 to R116, R143, R150 to
R153, R169 to R172). -/

namespace Sys2Proof.Machine

/-! ### The two frames -/

/-- Settles O12: the 32 slots are those of the four bytes, each one bit 7 first. -/
theorem transmitUnits : Obligations.TransmitUnits := by
  intro a k s h
  obtain ⟨-, -, -, -, -, -, -, -, hcycles⟩ := s.cfg.frameShape_iff.mp h
  refine ⟨s.transmit a k, rfl, ?_⟩
  rw [State.transmit_of_frameShape h, State.unitsOf_sent hcycles, commandUnits_of_frameShape h, bitsMsbFirst_frameOfBytes]
  simp only [byteBits, List.flatMap_append, List.flatMap_map, List.flatMap_cons, List.flatMap_nil, List.append_nil,
    List.append_assoc]

/-- Every slot has one mark, whatever its bit (rule R78). -/
theorem count_mark_flatMap_slots (bits : List Bool) :
    (bits.flatMap (fun b => if b then [Sym.mark, .space, .space, .space] else [.mark, .space])).count .mark =
      bits.length := by
  induction bits with
  | nil => rfl
  | cons b bits ih =>
    rw [List.flatMap_cons, List.count_append, ih, List.length_cons, Nat.add_comm]
    cases b <;> rfl

/-- A command frame has 49 marks: 16 lead-in units, one a slot and the end marker (rule R115). -/
theorem count_mark_commandUnits {c : Config} (h : c.frameShape = true) (a k : Byte) :
    (commandUnits c (necFrame a k)).count .mark = 49 := by
  rw [commandUnits_of_frameShape h, List.count_append, List.count_append, count_mark_flatMap_slots, bitsMsbFirst_length]
  rfl

/-- A unit is a mark or a space. -/
theorem count_mark_add_count_space (us : List Sym) : us.count .mark + us.count .space = us.length := by
  induction us with
  | nil => rfl
  | cons u us ih => cases u <;> simp <;> omega

/-- What a frame shows on the pin takes its units' time (rule R80). -/
theorem length_pinLevel_units (c : Config) (us : List Sym) :
    (pinLevel (us.flatMap (unitEvents c))).length = us.length * c.hpPerUnit := by
  rw [pinLevel_units, length_pinLevelOfUnits, c.hpPerUnit_eq]

/-- A frame takes its units' time. -/
theorem State.sent_elapsed (s : State) (f : Frame) (r : Bool) (us : List Sym) :
    (s.sent f r us).elapsed = s.elapsed + us.length * s.cfg.hpPerUnit := rfl

/-- Settles O14: a byte and its complement have eight ones between them, so the length does not depend on the operands; the
spaces are the units that are no marks. -/
theorem frameLength : Obligations.FrameLength := by
  intro a k s h
  obtain ⟨-, -, -, -, -, -, -, -, hcycles⟩ := s.cfg.frameShape_iff.mp h
  have hlen := length_commandUnits h a k
  have hmarks := count_mark_commandUnits h a k
  have hsum := count_mark_add_count_space (commandUnits s.cfg (necFrame a k))
  have helapsed : (s.transmit a k).elapsed = s.elapsed + 121 * s.cfg.hpPerUnit := by
    rw [State.transmit_of_frameShape h, State.sent_elapsed, hlen]
  refine ⟨s.transmit a k, commandUnits s.cfg (necFrame a k), rfl, ?_, hlen, hmarks, by omega, ?_, helapsed, fun h21 => ?_⟩
  · rw [State.transmit_of_frameShape h, State.unitsOf_sent hcycles]
  · rw [State.transmit_of_frameShape h, State.newEvents_of_append _ _ _ (State.sent_trace _ _ _ _), length_pinLevel_units, hlen]
  · rw [helapsed, s.cfg.hpPerUnit_eq, h21]
    rfl

/-- The repeat frame under the frame shape of rule R6 (rule R79). -/
theorem repeatUnits_of_frameShape {c : Config} (h : c.frameShape = true) :
    repeatUnits c = List.replicate 16 .mark ++ List.replicate 4 .space ++ [.mark] := by
  obtain ⟨hlead, -, hrpt, -, -, -, hend, -⟩ := c.frameShape_iff.mp h
  rw [repeatUnits, hlead, hrpt, hend]
  rfl

/-- Settles O15: the transmitter plays the 21 units of the repeat frame. -/
theorem repeatResult : Obligations.RepeatResult := by
  intro s h
  obtain ⟨-, -, -, -, -, -, -, -, hcycles⟩ := s.cfg.frameShape_iff.mp h
  refine ⟨s.transmitRepeat, rfl, ?_⟩
  rw [State.transmitRepeat_eq, repeatUnits_of_frameShape h]
  exact ⟨.refl _ _, State.unitsOf_sent hcycles _ _ _, rfl⟩

/-! ### The infrared commands -/

/-- A frame leaves the coil alone. -/
@[simp] theorem State.sent_relay (s : State) (f : Frame) (r : Bool) (us : List Sym) : (s.sent f r us).relay = s.relay := rfl

/-- The commands' bytes each select one `TRANSMIT` (rules R72, R150 to R152). -/
theorem exec_serial_command {i : Instr} {s : State} {k : Byte}
    (h : (i = .serVolumeUpPlus ∧ k = s.cfg.cmdVolUp) ∨ (i = .serVolumeDownMinus ∧ k = s.cfg.cmdVolDown) ∨
      ((i = .serMuteLowerM ∨ i = .serMuteUpperM) ∧ k = s.cfg.cmdMute)) :
    exec i s = .next (s.transmit s.cfg.necAddr k) := by
  rcases h with ⟨rfl, rfl⟩ | ⟨rfl, rfl⟩ | ⟨rfl | rfl, rfl⟩ <;> rfl

/-- So do the records, the LED lit and its window armed before (rules R74, R170, R171). -/
theorem exec_record_command {i : Instr} {s : State} {k : Byte} {toggle : Bool}
    (h : (i = .rcVolumeUp toggle ∧ k = s.cfg.cmdVolUp) ∨ (i = .rcVolumeDown toggle ∧ k = s.cfg.cmdVolDown) ∨
      (i = .rcMute toggle ∧ k = s.cfg.cmdMute)) :
    exec i s = .next (s.armLed.transmit s.cfg.necAddr k) := by
  rcases h with ⟨rfl, rfl⟩ | ⟨rfl, rfl⟩ | ⟨rfl, rfl⟩ <;> rfl

/-- Settles O24: the command is that `TRANSMIT`, and a frame touches none of the registers named. -/
theorem serialCommandsTransmit : Obligations.SerialCommandsTransmit := by
  intro i s k h
  refine ⟨_, _, exec_serial_command h, rfl, .refl _ _, ?_⟩
  obtain ⟨f, us, hus⟩ := s.transmit_eq_sent s.cfg.necAddr k
  rw [hus, State.newEvents_of_append _ _ _ (State.sent_trace s f false us), pulses_units]
  simp

/-- Settles O26: the LED is lit and its window armed, and what follows is that `TRANSMIT`. -/
theorem remoteCommandsTransmit : Obligations.RemoteCommandsTransmit := by
  intro i s k toggle h
  refine ⟨_, _, exec_record_command h, rfl, .refl _ _, ?_⟩
  obtain ⟨f, us, hus⟩ := s.armLed.transmit_eq_sent s.cfg.necAddr k
  have htrace : (s.armLed.sent f false us).trace = s.trace ++ ([.led true] ++ us.flatMap (unitEvents s.cfg)) := by simp
  rw [hus, State.newEvents_of_append _ _ _ htrace, pulses_append, pulses_units]
  simp [pulses]

/-! ### The commands that send nothing -/

/-- Settles O21: the timer takes its constant, whatever it held. -/
theorem ampOffDelayResult : Obligations.AmpOffDelayResult := by
  intro i s h
  exact ⟨s.ampOffDelay, by rcases h with rfl | rfl <;> rfl, .refl _ _⟩

/-- Settles O27: the LED and its window come first, the log entry after them. -/
theorem remoteUnmappedResult : Obligations.RemoteUnmappedResult := by
  intro cmd toggle s
  have harm : s.armLed.emits [.log (.rcUnmapped cmd)] =
      { s with led := true, ledt := s.cfg.ledTicks, trace := s.trace ++ [.led true, .log (.rcUnmapped cmd)] } := by
    rw [State.emits, State.armLed_trace, List.append_assoc]
    rfl
  refine ⟨s.armLed.emits [.log (.rcUnmapped cmd)], rfl, ?_⟩
  rw [harm]
  exact .refl _ _

/-- Settles O28: each is its log entry. -/
theorem remoteLogOnlyResult : Obligations.RemoteLogOnlyResult := by
  intro startbits addr cmd toggle s
  exact ⟨⟨s.emits [.log (.rcOtherAddr addr cmd)], rfl, .refl _ _⟩,
    ⟨s.emits [.log (.malformed startbits)], rfl, .refl _ _⟩⟩

end Sys2Proof.Machine

/-! PROOFS. A reset in the middle of a frame (rules R204, R230, R233): when it comes, what it cuts off, and which steps send a
frame. -/

namespace Sys2Proof.Machine

/-! ### The moment of the reset -/

section
variable {s : State} {d n : Nat} (h : s.resetWithin d n)
include h

/-- A reset that is still to come is not due. -/
theorem State.resetDue_of_resetWithin (hd : 0 < d) : s.resetDue = false := by
  obtain ⟨htrip, ⟨hrst, -⟩ | ⟨hrst, -⟩⟩ := h
  · simpa [State.resetDue, State.nextReset, htrip, hrst] using hd.ne'
  · simp [State.resetDue, State.nextReset, htrip, hrst]

/-- Once `n` half-periods have passed, a reset that comes sooner has its moment: `rst` has it from the start, the watchdog when
its counter passes the period. -/
theorem State.nextReset_of_resetWithin (hdn : d < n) {u : State} (hrstAt : u.world.rstAt = s.world.rstAt)
    (hwdtTrip : u.world.wdtTrip = (s.world.tick s.cfg.wdtPeriod s.elapsed n).wdtTrip) :
    u.nextReset = some (s.elapsed + d) := by
  obtain ⟨htrip, ⟨hrst, hslack⟩ | ⟨hrst, hwdt⟩⟩ := h
  · rw [World.tick_wdtTrip_of_le _ _ _ _ hslack, htrip] at hwdtTrip
    simp [State.nextReset, hrstAt, hrst, hwdtTrip]
  · have hpass : s.world.wdt ≤ s.cfg.wdtPeriod ∧ s.cfg.wdtPeriod < s.world.wdt + n := by omega
    have hmoment : s.cfg.wdtPeriod - s.world.wdt = d := by omega
    rw [World.tick, htrip, if_pos hpass, hmoment] at hwdtTrip
    simp [State.nextReset, hrstAt, hrst, hwdtTrip]

end

/-! ### What the cut leaves -/

/-- Where no relay is held, a cut after `k` half-periods leaves the first `k` samples of the pin (rule R233). -/
theorem pinLevel_cutEvents {es : List Event} (h : ∀ n, .hold n ∉ es) (k : Nat) :
    pinLevel (cutEvents k es) = (pinLevel es).take k := by
  induction es generalizing k with
  | nil => exact List.take_nil.symm
  | cons e es ih =>
    have hes : ∀ n, .hold n ∉ es := fun n hmem => h n (List.mem_cons_of_mem e hmem)
    cases e with
    | ir b n =>
      have hcons (fs : List Event) : pinLevel (.ir b n :: fs) = List.replicate n b ++ pinLevel fs := rfl
      by_cases hn : n ≤ k
      · rw [cutEvents, if_pos hn, hcons, hcons, ih hes, List.take_append, List.length_replicate,
          List.take_of_length_le (l := List.replicate n b) (by simpa)]
      · rw [cutEvents, if_neg hn, hcons, List.take_append_of_le_length (by simp; omega), List.take_replicate,
          Nat.min_eq_left (by omega)]
        split
        · next hk => rw [hk]; rfl
        · exact List.append_nil _
    | hold n => exact absurd List.mem_cons_self (h n)
    | relay b => exact ih hes k
    | led b => exact ih hes k
    | wdtKick => exact ih hes k
    | rcRearm => exact ih hes k
    | log e => exact ih hes k

/-- What a reset forces off is not on the infrared pin. -/
theorem State.pinLevel_forcedOff (s : State) : pinLevel s.forcedOff = [] := by
  unfold State.forcedOff
  cases s.relay <;> cases s.led <;> rfl

/-- A cut after the step's body has begun resets a state that has the events before the cut (rule R233). -/
theorem State.cutAt_of_body {s t : State} {n k : Nat} (hn : s.startStep.elapsed + k = n) :
    ∃ u : State, s.cutAt t n = u.enterReset ∧ u.resets = t.resets ∧ u.elapsed = n ∧
      u.trace = s.trace ++ cutEvents k (s.newEvents t) := by
  subst hn
  unfold State.cutAt
  rw [if_neg (by omega), Nat.add_sub_cancel_left]
  exact ⟨_, State.takeReset_eq _, rfl, rfl, rfl⟩

/-! ### Steps that send a frame -/

/-- `v` is where the step from `s` stands when the operation that it calls begins: the collaborators' time is over, and the
events so far are neither on the infrared pin nor a hold of the relay. -/
structure Begun (s v : State) : Prop where
  cfg : v.cfg = s.cfg
  resets : v.resets = s.resets
  elapsed : v.elapsed = s.elapsed + s.world.stall
  rstAt : v.world.rstAt = s.world.rstAt
  wdtTrip : ∀ n, (v.world.tick s.cfg.wdtPeriod (s.elapsed + s.world.stall) n).wdtTrip =
    (s.world.tick s.cfg.wdtPeriod s.elapsed (s.world.stall + n)).wdtTrip
  trace : ∃ es, v.trace = s.trace ++ es ∧ pinLevel es = [] ∧ ∀ n, .hold n ∉ es

/-- But for step 2, to which the loop's own time is charged, the start of a step is the collaborators' time. -/
theorem Begun.startStep {s : State} (hb : s.phase ≠ .busy) (h2 : s.phase ≠ .p2) : Begun s s.startStep := by
  have hs : s.startStep = ({ s with world := { s.world with stall := 0 } } : State).wait s.world.stall := by
    rw [State.startStep, if_neg hb, State.loopTime_of_ne_p2 h2]
    rfl
  have htick (n : Nat) := congrArg World.wdtTrip (World.tick_tick s.world s.cfg.wdtPeriod s.elapsed s.world.stall n)
  rw [hs]
  exact ⟨rfl, rfl, rfl, rfl, htick, [], (List.append_nil _).symm, rfl, fun _ => List.not_mem_nil⟩

section
variable {s v : State} (h : Begun s v)
include h

theorem Begun.pollSerial : Begun s v.pollSerial := ⟨h.cfg, h.resets, h.elapsed, h.rstAt, h.wdtTrip, h.trace⟩

theorem Begun.takeCall : Begun s v.takeCall := ⟨h.cfg, h.resets, h.elapsed, h.rstAt, h.wdtTrip, h.trace⟩

/-- A record copied, the decoder re-armed and the LED lit take no time. -/
theorem Begun.armLed (r : RcRecord) : Begun s (v.takeRecord r).rearm.armLed := by
  obtain ⟨es, htrace, hpin, hhold⟩ := h.trace
  refine ⟨h.cfg, h.resets, h.elapsed, h.rstAt, h.wdtTrip, es ++ [.rcRearm, .led true], ?_, ?_, ?_⟩
  · simp [htrace]
  · rw [pinLevel_append, hpin]
    rfl
  · simpa using hhold

end

/-- The step from `s` reads a wire whose instruction sends the units `us`. -/
def State.sendsFrame (s : State) (us : List Sym) : Prop :=
  ∃ w i v f r, s.fetch = some w ∧ decode s.cfg w = .ok i ∧ exec i s.startStep.issue = .next (v.sent f r us) ∧ Begun s v

/-- Step 5 with the byte of an infrared command (rules R72, R150 to R152, R165). -/
theorem State.sendsFrame_of_serial {s : State} {b cmd : Byte} (hshape : s.cfg.frameShape = true) (hp : s.phase = .p5)
    (hb : s.world.serial = some b)
    (hcmd : (b, cmd) ∈ [(0x6D, s.cfg.cmdMute), (0x4D, s.cfg.cmdMute), (0x2B, s.cfg.cmdVolUp), (0x2D, s.cfg.cmdVolDown)]) :
    s.sendsFrame (commandUnits s.cfg (necFrame s.cfg.necAddr cmd)) := by
  have hbegun : Begun s s.startStep.pollSerial := (Begun.startStep (by simp [hp]) (by simp [hp])).pollSerial
  have hissue : s.startStep.issue = s.startStep.pollSerial := by simp [State.issue, hp]
  have hexec : exec (decodeSerial (some b)) s.startStep.pollSerial =
      .next (s.startStep.pollSerial.transmit s.startStep.pollSerial.cfg.necAddr cmd) := by
    rw [← hbegun.cfg] at hcmd
    simp only [List.mem_cons, Prod.mk.injEq, List.not_mem_nil, or_false] at hcmd
    rcases hcmd with ⟨rfl, rfl⟩ | ⟨rfl, rfl⟩ | ⟨rfl, rfl⟩ | ⟨rfl, rfl⟩ <;> rfl
  refine ⟨.ser8 (some b), _, s.startStep.pollSerial, 0, false, by simp [State.fetch, hp, hb], rfl, ?_, hbegun⟩
  rw [hissue, hexec, State.transmit_of_frameShape (by rwa [hbegun.cfg]), hbegun.cfg]

/-- A record for the configured address with a mapped command sends the command's frame (rules R170, R171; rule R232 keeps the
three apart). -/
theorem State.dispatchRecord_of_mapped {s : State} {r : RcRecord} {cmd : Byte} (e : Engine) (hlegal : s.cfg.legal = true)
    (hb : r.startbits = s.cfg.startBitsValid) (ha : r.addr = s.cfg.remoteAddr)
    (hcmd : (r.cmd, cmd) ∈
      [(s.cfg.rcVolUp, s.cfg.cmdVolUp), (s.cfg.rcVolDown, s.cfg.cmdVolDown), (s.cfg.rcMute, s.cfg.cmdMute)]) :
    s.dispatchRecord e r = e.send s.armLed s.cfg.necAddr cmd := by
  obtain ⟨-, -, -, -, hud, hum, hdm⟩ := s.cfg.legal_iff.mp hlegal
  simp only [List.mem_cons, Prod.mk.injEq, List.not_mem_nil, or_false] at hcmd
  simp only [State.dispatchRecord, hb, ha, bne_self_eq_false, beq_self_eq_true, beq_iff_eq, Bool.false_eq_true, if_false, if_true]
  rcases hcmd with ⟨hr, rfl⟩ | ⟨hr, rfl⟩ | ⟨hr, rfl⟩ <;> rw [hr]
  · rw [if_pos rfl]; rfl
  · rw [if_neg hud.symm, if_pos rfl]; rfl
  · rw [if_neg hum.symm, if_neg hdm.symm, if_pos rfl]; rfl

/-- Step 7 with such a record (rules R168 to R171). -/
theorem State.sendsFrame_of_record {s : State} {r : RcRecord} {cmd : Byte} (hshape : s.cfg.frameShape = true)
    (hlegal : s.cfg.legal = true) (hp : s.phase = .p7) (hr : s.world.decoder.report = some r)
    (hb : r.startbits = s.cfg.startBitsValid) (ha : r.addr = s.cfg.remoteAddr)
    (hcmd : (r.cmd, cmd) ∈
      [(s.cfg.rcVolUp, s.cfg.cmdVolUp), (s.cfg.rcVolDown, s.cfg.cmdVolDown), (s.cfg.rcMute, s.cfg.cmdMute)]) :
    s.sendsFrame (commandUnits s.cfg (necFrame s.cfg.necAddr cmd)) := by
  have hbegun := (Begun.startStep (s := s) (by simp [hp]) (by simp [hp])).armLed r
  have hcfg : (s.startStep.takeRecord r).rearm.cfg = s.cfg := s.startStep_cfg
  have hissue : s.startStep.issue = (s.startStep.takeRecord r).rearm := by simp [State.issue, hp, hr]
  have hexec := exec_decodeRecord r (s.startStep.takeRecord r).rearm
  rw [State.dispatchRecord_of_mapped _ (by rwa [hcfg]) (by rwa [hcfg]) (by rwa [hcfg]) (by rwa [hcfg]), hcfg] at hexec
  refine ⟨.rcrec r, _, _, 0, false, by simp [State.fetch, hp, hr], rfl, ?_, hbegun⟩
  rw [hissue, hexec, ← hbegun.cfg, ← State.transmit_of_frameShape (by rwa [hbegun.cfg])]
  rfl

/-- A host's call of an operation that sends a frame (rules R50, R118, decision D31). -/
theorem State.sendsFrame_of_hostCall {s : State} {call : Call} {i : Instr} {f : Frame} {r : Bool} {us : List Sym}
    (hp : s.phase = .p1) (hc : s.world.hostCall = some call) (hd : decode s.cfg call.wire = .ok i)
    (he : exec i s.startStep.takeCall = .next (s.startStep.takeCall.sent f r us)) : s.sendsFrame us := by
  have hbegun : Begun s s.startStep.takeCall := (Begun.startStep (by simp [hp]) (by simp [hp])).takeCall
  have hissue : s.startStep.issue = s.startStep.takeCall := by simp [State.issue, hp]
  exact ⟨call.wire, i, _, f, r, by simp [State.fetch, hp, hc], hd, by rwa [hissue], hbegun⟩

/-- Its command frame (rules R50, R75). -/
theorem State.sendsFrame_of_hostCommand {s : State} {a cmd : Byte} (hshape : s.cfg.frameShape = true) (hp : s.phase = .p1)
    (hc : s.world.hostCall = some (.nec32 (frameOfBytes a cmd))) : s.sendsFrame (commandUnits s.cfg (necFrame a cmd)) := by
  have hcfg : s.startStep.takeCall.cfg = s.cfg := s.startStep_cfg
  have hsent := State.transmit_of_frameShape (s := s.startStep.takeCall) (by rwa [hcfg]) a cmd
  rw [hcfg] at hsent
  exact State.sendsFrame_of_hostCall hp hc (decodeFrame_frameOfBytes a cmd) (congrArg Host.Outcome.next hsent)

/-- Its repeat frame (rules R116, R118). -/
theorem State.sendsFrame_of_hostRepeat {s : State} (hp : s.phase = .p1) (hc : s.world.hostCall = some .transmitRepeat) :
    s.sendsFrame (repeatUnits s.cfg) := by
  have hsent := s.startStep.takeCall.transmitRepeat_eq
  rw [show s.startStep.takeCall.cfg = s.cfg from s.startStep_cfg] at hsent
  exact State.sendsFrame_of_hostCall hp hc rfl (congrArg Host.Outcome.next hsent)

/-! ### The cut -/

/-- Only the steps that neither wait for the loop nor for an operation in progress read a wire. -/
theorem State.phase_of_fetch {s : State} {w : Wire} (h : s.fetch = some w) : s.phase ≠ .busy ∧ s.phase ≠ .p2 := by
  constructor <;> intro hp <;> simp [State.fetch, hp] at h

/-- The end of a step changes `phase` alone. -/
theorem State.retire_eq_setPhase (s : State) (p : Phase) : ∃ q, s.retire p = s.setPhase q := by
  unfold State.retire
  split
  · exact ⟨s.phase, rfl⟩
  · exact ⟨s.phase.next, rfl⟩

/-- The events of a frame hold no relay. -/
theorem hold_not_mem_units (c : Config) (us : List Sym) (n : Nat) : .hold n ∉ us.flatMap (unitEvents c) := by
  intro hmem
  obtain ⟨b, m, heq⟩ := mem_flatMap_unitEvents hmem
  cases heq

/-- A reset that comes while the frame is sent cuts the step `k` half-periods after the collaborators' time (rule R233). -/
theorem Begun.conclude_sent {s v : State} {f : Frame} {r : Bool} {us : List Sym} {p : Phase} {k : Nat} (h : Begun s v)
    (hreset : s.resetWithin (s.world.stall + k) (s.world.stall + us.length * s.cfg.hpPerUnit))
    (hkn : k < us.length * s.cfg.hpPerUnit) :
    s.conclude ((v.sent f r us).setPhase p) = s.cutAt ((v.sent f r us).setPhase p) (s.elapsed + s.world.stall + k) := by
  have htrip : ((v.sent f r us).setPhase p).world.wdtTrip =
      (s.world.tick s.cfg.wdtPeriod s.elapsed (s.world.stall + us.length * s.cfg.hpPerUnit)).wdtTrip := by
    rw [← h.wdtTrip, ← h.cfg, ← h.elapsed]
    rfl
  have hnext := State.nextReset_of_resetWithin hreset (by omega) (u := (v.sent f r us).setPhase p) h.rstAt htrip
  have hend : s.elapsed + (s.world.stall + k) < ((v.sent f r us).setPhase p).elapsed := by
    rw [State.setPhase_elapsed, State.sent_elapsed, h.elapsed, h.cfg]
    omega
  have hresets : ((v.sent f r us).setPhase p).resets = s.resets := h.resets
  rw [State.conclude, if_neg (not_not.mpr hresets), hnext, Nat.add_assoc]
  exact if_pos hend

/-- What such a reset finds has shown the first `k` samples of the frame (rule R233). -/
theorem State.sendsFrame.cut {s : State} {us : List Sym} {k : Nat} (h : s.sendsFrame us)
    (hreset : s.resetWithin (s.world.stall + k) (s.world.stall + us.length * s.cfg.hpPerUnit)) (hk : 0 < k)
    (hkn : k < us.length * s.cfg.hpPerUnit) :
    ∃ (u : State) (es : List Event), step s = .next u.enterReset.advance ∧ u.resets = s.resets ∧
      u.elapsed = s.elapsed + s.world.stall + k ∧ u.trace = s.trace ++ es ∧
      pinLevel es = (pinLevel (us.flatMap (unitEvents s.cfg))).take k := by
  obtain ⟨w, i, v, f, r, hf, hi, hexec, hbegun⟩ := h
  obtain ⟨hb, h2⟩ := State.phase_of_fetch hf
  obtain ⟨pre, hpre, hpin, hhold⟩ := hbegun.trace
  obtain ⟨p, hp⟩ := (v.sent f r us).retire_eq_setPhase s.phase
  have hstep := step_of_decode s _ w i (State.resetDue_of_resetWithin hreset (by omega)) (s.startStep_fetch.trans hf) hi hexec
  rw [hp, hbegun.conclude_sent hreset hkn] at hstep
  have hstart : s.startStep.elapsed + k = s.elapsed + s.world.stall + k := by rw [(Begun.startStep hb h2).elapsed]
  obtain ⟨u, hu, huresets, huelapsed, hutrace⟩ := State.cutAt_of_body (t := (v.sent f r us).setPhase p) hstart
  rw [hu] at hstep
  have hevents : s.newEvents ((v.sent f r us).setPhase p) = pre ++ us.flatMap (unitEvents s.cfg) :=
    State.newEvents_of_append _ _ _ (by simp [hpre, hbegun.cfg])
  have hnohold : ∀ n, .hold n ∉ pre ++ us.flatMap (unitEvents s.cfg) := fun n hmem =>
    (List.mem_append.mp hmem).elim (hhold n) (hold_not_mem_units _ _ n)
  refine ⟨u, _, hstep, huresets.trans hbegun.resets, huelapsed, hutrace, ?_⟩
  rw [hevents, pinLevel_cutEvents hnohold, pinLevel_append, hpin, List.nil_append]

/-- Settles O56: each of the four sends its frame in one wire's instruction, and what the reset forces off is not on the infrared
pin. -/
theorem resetCutsFrame : Obligations.ResetCutsFrame := by
  intro s k us hshape hlegal hcase hreset hk hkn
  have hsends : s.sendsFrame us := by
    rcases hcase with ⟨hp, b, cmd, hb, rfl, hcmd⟩ | ⟨hp, r, cmd, hr, hbits, ha, rfl, hcmd⟩ |
      ⟨hp, ⟨a, cmd, hc, rfl⟩ | ⟨hc, rfl⟩⟩
    · exact State.sendsFrame_of_serial hshape hp hb hcmd
    · exact State.sendsFrame_of_record hshape hlegal hp hr hbits ha hcmd
    · exact State.sendsFrame_of_hostCommand hshape hp hc
    · exact State.sendsFrame_of_hostRepeat hp hc
  obtain ⟨u, es, hstep, hresets, helapsed, htrace, hpin⟩ := hsends.cut hreset hk hkn
  have hevents : s.newEvents u.enterReset.advance = es ++ u.forcedOff :=
    State.newEvents_of_append _ _ _ (by simp [htrace])
  have hpinLevel : pinLevel (s.newEvents u.enterReset.advance) = (pinLevel (us.flatMap (unitEvents s.cfg))).take k := by
    rw [hevents, pinLevel_append, u.pinLevel_forcedOff, List.append_nil, hpin]
  refine ⟨u.enterReset.advance, hstep, hpinLevel, ?_, ?_⟩
  · rw [hpinLevel, List.length_take, length_pinLevel_units, Nat.min_eq_left (by omega)]
  · simp [hresets, helapsed]

end Sys2Proof.Machine

/-! PROOFS. The two bursts: what they leave on the pin, and their units (rules R100 to R102, R105). -/

namespace Sys2Proof.Machine

/-- Some events that, if there are any, end with the infrared pin low (rule R102). -/
def EndsLow (es : List Event) : Prop := ∀ e, es.getLast? = some e → ∃ k, e = .ir false k

theorem EndsLow.append {es fs : List Event} (he : EndsLow es) (hf : EndsLow fs) : EndsLow (es ++ fs) := by
  intro e h
  rw [List.getLast?_append] at h
  cases hlast : fs.getLast? with
  | none => exact he e (by simpa [hlast] using h)
  | some f =>
    rw [hlast] at h
    cases h
    exact hf _ hlast

theorem EndsLow.flatten {ess : List (List Event)} (h : ∀ es ∈ ess, EndsLow es) : EndsLow ess.flatten := by
  induction ess with
  | nil => exact nofun
  | cons es ess ih =>
    rw [List.flatten_cons]
    exact (h es List.mem_cons_self).append (ih fun fs hfs => h fs (List.mem_cons_of_mem es hfs))

/-- A mark ends with the low half of its last cycle, and a space is low throughout (rules R80, R102). -/
theorem unitEvents_endsLow (c : Config) (u : Sym) : EndsLow (unitEvents c u) := by
  cases u with
  | mark =>
    refine EndsLow.flatten fun es hes e he => ⟨1, ?_⟩
    rw [List.eq_of_mem_replicate hes] at he
    exact (Option.some.inj he).symm
  | space => exact fun e he => ⟨c.hpPerUnit, (Option.some.inj he).symm⟩

theorem units_endsLow (c : Config) (us : List Sym) : EndsLow (us.flatMap (unitEvents c)) := by
  refine EndsLow.flatten fun es hes => ?_
  obtain ⟨u, -, rfl⟩ := List.mem_map.mp hes
  exact unitEvents_endsLow c u

/-- Units log nothing. -/
theorem observed_units (c : Config) (us : List Sym) :
    observed (us.flatMap (unitEvents c)) = us.flatMap (unitEvents c) := by
  refine List.filter_eq_self.mpr fun e he => ?_
  obtain ⟨b, n, rfl⟩ := mem_flatMap_unitEvents he
  rfl

theorem State.newEvents_played (s : State) (m : Bool) (us : List Sym) :
    s.newEvents (s.played m us) = us.flatMap (unitEvents s.cfg) := State.newEvents_of_append _ _ _ rfl

/-- Settles O9: either burst plays units, and units end low. -/
theorem pinLowAfterGenerator : Obligations.PinLowAfterGenerator := by
  intro n s i hi
  have hplays : ∃ m us, exec i s = .next (s.played m us) := by
    rcases hi with rfl | rfl
    · exact ⟨true, _, congrArg Host.Outcome.next (s.burst1_eq n)⟩
    · exact ⟨false, _, congrArg Host.Outcome.next (s.burst0_eq n)⟩
  obtain ⟨m, us, hexec⟩ := hplays
  refine ⟨_, hexec, rfl, rfl, ?_⟩
  rw [State.newEvents_played, observed_units]
  exact units_endsLow s.cfg us

/-- Settles O10: a burst plays its units, and these are read back from the pin. -/
theorem burstUnits : Obligations.BurstUnits := by
  intro n s hcycles
  refine ⟨⟨s.burst1 n, rfl, ?_⟩, ⟨s.burst0 n, rfl, ?_⟩⟩
  · rw [State.burst1_eq, State.newEvents_played, unitsOf_units hcycles]
  · rw [State.burst0_eq, State.newEvents_played, unitsOf_units hcycles]

end Sys2Proof.Machine

/-! PROOFS. The clocked frame, one tick a half-period, against the frame that is sent whole (rules R107, R120). -/

namespace Sys2Proof.Machine

/-! ### Ticks of the generator -/

/-- From `s`, `n` ticks of the generator lead to `t`, an operation in progress at each of them (rule R107). -/
inductive GeneratorRun : Nat → State → State → Prop where
  | done (s : State) : GeneratorRun 0 s s
  | tick {n : Nat} {s t : State} (hbusy : s.phase = .busy) (hhold : s.holdcnt = 0) (hunit : s.unitcnt ≠ 0)
      (hrest : GeneratorRun n s.burstTick t) : GeneratorRun (n + 1) s t

theorem GeneratorRun.trans {m n : Nat} {s t u : State} (h : GeneratorRun m s t) (h' : GeneratorRun n t u) :
    GeneratorRun (m + n) s u := by
  induction h with
  | done => rwa [Nat.zero_add]
  | tick hbusy hhold hunit _ ih =>
    rw [Nat.succ_add]
    exact .tick hbusy hhold hunit (ih h')

theorem State.countTick_world (s : State) : s.countTick.world = s.world := by
  unfold State.countTick
  repeat' split
  all_goals rfl

theorem State.burstDone_world (s : State) : s.burstDone.world = s.world := by
  unfold State.burstDone
  repeat' split
  all_goals rfl

/-- A tick of the generator takes one half-period, and the world sees nothing else of it. -/
theorem State.burstTick_world (s : State) : s.burstTick.world = (s.wait 1).world := by
  have hcount := (((s.writeIr (s.mark && !s.half)).emits [.ir (s.mark && !s.half) 1]).wait 1).countTick_world
  unfold State.burstTick
  dsimp only
  split
  · exact (State.burstDone_world _).trans hcount
  · exact hcount

theorem State.burstTick_slack {s : State} {n : Nat} (h : s.slack (n + 1)) : s.burstTick.slack n := by
  rw [State.slack, State.burstTick_world, State.burstTick_cfg]
  unfold State.slack at h
  show s.world.wdt + 1 + n ≤ _
  omega

/-- In a calm world without stimuli the clocked machine makes these ticks, while the watchdog leaves room for them. -/
theorem GeneratorRun.clockRun {n : Nat} {s t : State} (h : GeneratorRun n s t) (hc : s.world.calm = true)
    (hp : s.world.pending = []) (hs : s.slack n) : State.clockRun n s = t := by
  induction h with
  | done => rfl
  | tick hbusy hhold hunit _ ih =>
    next s t _ =>
    have htick : s.clockTick = s.burstTick := by rw [State.clockTick, if_neg (not_not.mpr hhold), if_pos hunit]
    have hcalm : s.burstTick.world.calm = true := by
      rw [State.burstTick_world]
      exact State.wait_calm hc (State.slack_mono hs (by omega))
    have hpending : s.burstTick.world.pending = [] := by
      rw [State.burstTick_world]
      exact hp
    rw [State.clockRun, State.clockStep_of_busy hbusy hc (by rwa [htick]) (by rwa [htick]), htick]
    exact ih hcalm hpending (State.burstTick_slack hs)

/-! ### A generator run -/

/-- The pin shown at some levels, one half-period each (rule R107). -/
def State.shown (s : State) (levels : List Bool) : State := (s.emits (levels.map (.ir · 1))).wait levels.length

theorem State.shown_shown (s : State) (l l' : List Bool) : (s.shown l).shown l' = s.shown (l ++ l') := by
  simp only [State.shown, State.wait_emits, State.emits_emits, State.wait_wait, List.map_append, List.length_append]

/-- The generator at the start of a carrier cycle: `n` units still to go, `c` cycles of the unit in progress among them
(rule R107). -/
def State.generating (s : State) (marked : Bool) (n c : Units) : State :=
  { s with unitcnt := n, cyccnt := c, half := false, mark := marked }

/-- The unit that a run with this `mark` consists of (rules R100, R101). -/
def Sym.ofMark (marked : Bool) : Sym := if marked then .mark else .space

/-- The samples of a unit, cycle by cycle (rule R80). -/
theorem Sym.pinLevels_ofMark (marked : Bool) (k : Nat) :
    (Sym.ofMark marked).pinLevels k = (List.replicate k [marked, false]).flatten := by
  cases marked with
  | true => rfl
  | false =>
    show List.replicate (2 * k) false = _
    induction k with
    | zero => rfl
    | succ k ih => rw [List.replicate_succ, List.flatten_cons, ← ih]; rfl

/-- The clocked machine once the units `us` have been played, the last one a mark if `marked`: as `State.played`, but with one
event a half-period. -/
def State.clockedOut (s : State) (marked : Bool) (us : List Sym) : State :=
  (s.shown (pinLevelOfUnits s.cfg.cyclesPerUnit.toNat us)).restGenerator marked

theorem State.clockedOut_clockedOut (s : State) (m m' : Bool) (us vs : List Sym) :
    (s.clockedOut m us).clockedOut m' vs = s.clockedOut m' (us ++ vs) := by
  have hunits : pinLevelOfUnits s.cfg.cyclesPerUnit.toNat (us ++ vs) =
      pinLevelOfUnits s.cfg.cyclesPerUnit.toNat us ++ pinLevelOfUnits s.cfg.cyclesPerUnit.toNat vs := List.flatMap_append
  rw [State.clockedOut, State.clockedOut, State.clockedOut, hunits, ← State.shown_shown]
  rfl

section
variable (s : State) (m : Bool) (us : List Sym)

@[simp] theorem State.clockedOut_cfg : (s.clockedOut m us).cfg = s.cfg := rfl
@[simp] theorem State.clockedOut_sr : (s.clockedOut m us).sr = s.sr := rfl
@[simp] theorem State.clockedOut_rpt : (s.clockedOut m us).rpt = s.rpt := rfl
@[simp] theorem State.clockedOut_setTx (x : TxState) : (s.setTx x).clockedOut m us = (s.clockedOut m us).setTx x := rfl
@[simp] theorem State.clockedOut_writeIr (b : Bool) : (s.writeIr b).clockedOut m us = s.clockedOut m us := rfl
@[simp] theorem State.writeIr_clockedOut : (s.clockedOut m us).writeIr false = s.clockedOut m us := rfl

end

/-- The second half of a carrier cycle, the pin low (rule R107). -/
def State.lowHalf (s : State) (marked : Bool) (n c : Units) : State :=
  { s.generating marked n c with half := true }

/-- The end of a carrier cycle: the next cycle, the next unit, or the completion of the run (rule R107). -/
def State.endCycle (s : State) (marked : Bool) (n c : Units) : State :=
  if c ≠ 1 then s.generating marked n (c - 1)
  else if n ≠ 1 then s.generating marked (n - 1) s.cfg.cyclesPerUnit
  else (s.generating marked 0 s.cfg.cyclesPerUnit).burstDone

/-- The first tick of a carrier cycle. -/
theorem State.burstTick_generating (s : State) (marked : Bool) {n : Units} (c : Units) (hn : n ≠ 0) :
    (s.generating marked n c).burstTick = ((s.writeIr marked).shown [marked]).lowHalf marked n c := by
  have hlevel : (marked && !false) = marked := Bool.and_true marked
  show (if n = 0 then _ else ((s.writeIr (marked && !false)).shown [marked && !false]).lowHalf marked n c) = _
  rw [hlevel, if_neg hn]

/-- The second tick of a carrier cycle. -/
theorem State.burstTick_lowHalf (s : State) (marked : Bool) {n : Units} (c : Units) (hn : n ≠ 0) :
    (s.lowHalf marked n c).burstTick = ((s.writeIr false).shown [false]).endCycle marked n c := by
  have hlevel : (marked && !true) = false := Bool.and_false marked
  have hcount : (((s.lowHalf marked n c).writeIr false).shown [false]).countTick =
      if c = 1 then ((s.writeIr false).shown [false]).generating marked (n - 1) s.cfg.cyclesPerUnit
      else ((s.writeIr false).shown [false]).generating marked n (c - 1) := rfl
  have htick : (s.lowHalf marked n c).burstTick =
      let t := (((s.lowHalf marked n c).writeIr (marked && !true)).shown [marked && !true]).countTick
      if t.unitcnt = 0 then t.burstDone else t := rfl
  rw [htick, hlevel, hcount, State.endCycle]
  by_cases hc : c = 1
  · by_cases hn1 : n = 1
    · subst hn1
      rw [if_pos hc, if_neg (not_not.mpr hc), if_neg (not_not.mpr rfl)]
      rfl
    · rw [if_pos hc, if_neg (not_not.mpr hc), if_pos hn1]
      exact if_neg fun h => hn1 (sub_eq_zero.mp h)
  · rw [if_neg hc, if_pos hc]
    exact if_neg hn

section
variable {s : State} (hbusy : s.phase = .busy) (hhold : s.holdcnt = 0) (marked : Bool)
include hbusy hhold

/-- A carrier cycle is two ticks, the second one with the pin low. -/
theorem GeneratorRun.cycle {n : Units} (c : Units) (hn : n ≠ 0) :
    GeneratorRun 2 (s.generating marked n c) (((s.writeIr false).shown [marked, false]).endCycle marked n c) := by
  refine .tick hbusy hhold hn ?_
  rw [State.burstTick_generating s marked c hn]
  refine .tick hbusy hhold hn ?_
  rw [State.burstTick_lowHalf _ marked c hn]
  have hlow : (((s.writeIr marked).shown [marked]).writeIr false).shown [false] = (s.writeIr false).shown [marked, false] :=
    (s.writeIr false).shown_shown [marked] [false]
  rw [hlow]
  exact .done _

/-- The cycles of a unit, one after the other. -/
theorem GeneratorRun.unit {n : Units} (hn : n ≠ 0) {k : Nat} {c : Units} (hk : c.toNat = k + 1) :
    GeneratorRun (2 * (k + 1)) (s.generating marked n c)
      (((s.writeIr false).shown ((Sym.ofMark marked).pinLevels (k + 1))).endCycle marked n 1) := by
  rw [Sym.pinLevels_ofMark]
  induction k generalizing s c with
  | zero =>
    obtain rfl : c = 1 := BitVec.toNat_inj.mp hk
    exact .cycle hbusy hhold marked 1 hn
  | succ k ih =>
    have hc : c ≠ 1 := fun h => by simp [h] at hk
    have hpred : (c - 1).toNat = k + 1 := by bv_omega
    have hcycle := GeneratorRun.cycle hbusy hhold marked c hn
    rw [State.endCycle, if_pos hc] at hcycle
    have hrest := ih (s := (s.writeIr false).shown [marked, false]) hbusy hhold hpred
    have hall := hcycle.trans hrest
    rw [List.replicate_succ, List.flatten_cons, ← State.shown_shown, Nat.mul_succ, Nat.add_comm]
    exact hall

/-- A generator run plays its units and completes (rules R100, R101, R107). -/
theorem GeneratorRun.burst (hcycles : s.cfg.cyclesPerUnit ≠ 0) {n : Units} (hn : n ≠ 0) :
    GeneratorRun (n.toNat * s.cfg.hpPerUnit) (s.startBurst marked n)
      (s.clockedOut marked (List.replicate n.toNat (.ofMark marked))).burstDone := by
  obtain ⟨c, hc⟩ : ∃ c, s.cfg.cyclesPerUnit.toNat = c + 1 :=
    Nat.exists_eq_add_one_of_ne_zero fun h => hcycles (BitVec.toNat_inj.mp h)
  obtain ⟨k, hk⟩ : ∃ k, n.toNat = k + 1 := Nat.exists_eq_add_one_of_ne_zero fun h => hn (BitVec.toNat_inj.mp h)
  have hone (u : Sym) : pinLevelOfUnits s.cfg.cyclesPerUnit.toNat [u] = u.pinLevels (c + 1) := by
    rw [hc]
    exact List.flatMap_singleton _ u
  rw [hk, s.cfg.hpPerUnit_eq]
  induction k generalizing s n with
  | zero =>
    obtain rfl : n = 1 := BitVec.toNat_inj.mp hk
    have hunit := GeneratorRun.unit hbusy hhold marked hn hc
    rw [State.endCycle, if_neg (not_not.mpr rfl), if_neg (not_not.mpr rfl), ← hone, ← hc] at hunit
    rw [Nat.one_mul]
    exact hunit
  | succ k ih =>
    have hn1 : n ≠ 1 := fun h => by simp [h] at hk
    have hpred : (n - 1).toNat = k + 1 := by bv_omega
    have hpos : n - 1 ≠ 0 := fun h => hn1 (sub_eq_zero.mp h)
    have hunit := GeneratorRun.unit hbusy hhold marked hn hc
    rw [State.endCycle, if_neg (not_not.mpr rfl), if_pos hn1, ← hone, ← hc] at hunit
    have hrest := ih (s := s.clockedOut marked [.ofMark marked]) hbusy hhold hcycles hpos hc hpred hone
    rw [State.clockedOut_clockedOut] at hrest
    rw [Nat.succ_mul, Nat.add_comm, List.replicate_succ]
    exact hunit.trans hrest

end

/-! ### A frame -/

/-- The transmitter before the completion of a space, `n` bit slots of `f` still to send (rule R120). -/
def State.atSlot (s : State) (f : Frame) (n : Nat) : State :=
  { s with txstate := .bitSpace, sr := f <<< (32 - n), bitcnt := BitVec.ofNat 6 n }

section
variable (s : State) (f : Frame) (n : Nat)

@[simp] theorem State.atSlot_cfg : (s.atSlot f n).cfg = s.cfg := rfl
@[simp] theorem State.atSlot_phase : (s.atSlot f n).phase = s.phase := rfl
@[simp] theorem State.atSlot_holdcnt : (s.atSlot f n).holdcnt = s.holdcnt := rfl
@[simp] theorem State.atSlot_bitcnt : (s.atSlot f n).bitcnt = BitVec.ofNat 6 n := rfl
@[simp] theorem State.atSlot_setTx : (s.atSlot f n).setTx .bitSpace = s.atSlot f n := rfl
@[simp] theorem State.clockedOut_atSlot (m : Bool) (us : List Sym) :
    (s.atSlot f n).clockedOut m us = (s.clockedOut m us).atSlot f n := rfl
@[simp] theorem State.restTransmitter_atSlot (g : Frame) : (s.atSlot f n).restTransmitter g = s.restTransmitter g := rfl

end

/-- The lead-in's mark is followed by its space (rule R120). -/
theorem State.burstDone_of_leadMark {s : State} (h : s.txstate = .leadMark) :
    s.burstDone =
      ((s.writeIr false).setTx .leadSpace).startBurst false (if s.rpt then s.cfg.rptSpace else s.cfg.leadSpace) := by
  rw [State.burstDone, h]

/-- The end marker is the end of the frame (rule R120). -/
theorem State.burstDone_endMark {s : State} (hbits : s.bitcnt = 0) :
    (s.setTx .endMark).burstDone = (s.restTransmitter s.sr).resume := by
  rw [State.restTransmitter, ← hbits]
  rfl

/-- The lead-in's space and a slot's complete alike (rule R120). -/
theorem State.burstDone_leadSpace (s : State) : (s.setTx .leadSpace).burstDone = (s.setTx .bitSpace).burstDone := rfl

/-- With slots to send, the completion of a space starts the mark of the next one (rule R120). -/
theorem State.burstDone_atSlot (s : State) (f : Frame) {n : Nat} (hn : n < 32) :
    (s.atSlot f (n + 1)).burstDone =
      ((((s.writeIr false).atSlot f (n + 1)).setTx .bitMark).startBurst true s.cfg.bitMark) := by
  have hcount : BitVec.ofNat 6 (n + 1) ≠ 0 := by
    rw [ne_eq, ← BitVec.toNat_inj, BitVec.toNat_ofNat, Nat.mod_eq_of_lt (by omega)]
    exact Nat.succ_ne_zero n
  exact if_neg hcount

/-- The shift register's top bit is the slot's (rule R44). -/
theorem msb_shiftLeft (f : Frame) {n : Nat} (hn : n < 32) : (f <<< (32 - (n + 1))).msb = f.getLsbD n := by
  have hindex : 32 - 1 - (32 - (n + 1)) = n := by omega
  rw [BitVec.msb_shiftLeft, BitVec.getMsbD_eq_getLsbD, hindex, decide_eq_true (by omega), Bool.true_and]

/-- One shift more, one slot less (rule R120). -/
theorem State.shiftBit_atSlot (s : State) (f : Frame) {n : Nat} (hn : n < 32) :
    ((s.atSlot f (n + 1)).setTx .bitSpace).shiftBit = s.atSlot f n := by
  have hshift : f <<< (32 - (n + 1)) <<< 1 = f <<< (32 - n) := by
    rw [← BitVec.shiftLeft_add]
    congr 1
    omega
  have hcount : BitVec.ofNat 6 (n + 1) - 1 = BitVec.ofNat 6 n := by bv_omega
  rw [State.atSlot, State.atSlot, ← hshift, ← hcount]
  rfl

/-- A slot's mark is followed by its space (rule R120). -/
theorem State.burstDone_bitMark (s : State) (f : Frame) {n : Nat} (hn : n < 32) :
    ((s.atSlot f (n + 1)).setTx .bitMark).burstDone =
      ((s.writeIr false).atSlot f n).startBurst false (if f.getLsbD n then s.cfg.bit1Space else s.cfg.bit0Space) := by
  rw [← msb_shiftLeft f hn, ← State.shiftBit_atSlot _ f hn]
  rfl

/-- A loaded frame has all its slots to send. -/
theorem State.setTx_bitSpace_eq_atSlot {s : State} (hbits : s.bitcnt = 32) : s.setTx .bitSpace = s.atSlot s.sr 32 := by
  rw [State.atSlot, Nat.sub_self, BitVec.shiftLeft_zero, show BitVec.ofNat 6 32 = s.bitcnt from hbits.symm]
  rfl

/-- All slots sent, the shift register is empty (rule R120). -/
theorem State.atSlot_zero_sr (s : State) (f : Frame) : (s.atSlot f 0).sr = 0 := BitVec.shiftLeft_eq_zero (Nat.le_refl 32)

section
variable {s : State} (hshape : s.cfg.frameShape = true) (hbusy : s.phase = .busy) (hhold : s.holdcnt = 0)
include hshape hbusy hhold

/-- A clocked bit slot (rules R113, R120). -/
theorem GeneratorRun.slot (f : Frame) {n : Nat} (hn : n < 32) :
    GeneratorRun ((slotUnits s.cfg (f.getLsbD n)).length * s.cfg.hpPerUnit) (s.atSlot f (n + 1)).burstDone
      ((s.clockedOut false (slotUnits s.cfg (f.getLsbD n))).atSlot f n).burstDone := by
  obtain ⟨-, -, -, hmark, h0, h1, -, -, hcycles⟩ := s.cfg.frameShape_iff.mp hshape
  have hmark0 : s.cfg.bitMark ≠ 0 := by rw [hmark]; decide
  have hspace0 (b : Bool) : (if b then s.cfg.bit1Space else s.cfg.bit0Space) ≠ 0 := by
    rw [h0, h1]
    cases b <;> decide
  have hmarkRun := GeneratorRun.burst (s := ((s.writeIr false).atSlot f (n + 1)).setTx .bitMark) hbusy hhold true hcycles hmark0
  have hspaceRun := GeneratorRun.burst (s := (s.clockedOut true (List.replicate s.cfg.bitMark.toNat .mark)).atSlot f n)
    hbusy hhold false hcycles (hspace0 (f.getLsbD n))
  rw [State.clockedOut_setTx, State.clockedOut_atSlot, State.clockedOut_writeIr, State.burstDone_bitMark _ f hn,
    State.writeIr_clockedOut] at hmarkRun
  rw [State.clockedOut_atSlot, State.clockedOut_clockedOut] at hspaceRun
  rw [State.burstDone_atSlot s f hn, slotUnits, List.length_append, List.length_replicate, List.length_replicate, Nat.add_mul]
  exact hmarkRun.trans hspaceRun

/-- Clocked bit slots, one after the other. -/
theorem GeneratorRun.slots (f : Frame) {n : Nat} (hn : n ≤ 32) (us : List Sym) :
    GeneratorRun (((bitsMsbFirst f n).flatMap (slotUnits s.cfg)).length * s.cfg.hpPerUnit)
      ((s.clockedOut false us).atSlot f n).burstDone
      ((s.clockedOut false (us ++ (bitsMsbFirst f n).flatMap (slotUnits s.cfg))).atSlot f 0).burstDone := by
  induction n generalizing us with
  | zero =>
    rw [bitsMsbFirst, List.flatMap_nil, List.append_nil, List.length_nil, Nat.zero_mul]
    exact .done _
  | succ n ih =>
    have hslot := GeneratorRun.slot (s := s.clockedOut false us) hshape hbusy hhold f (Nat.lt_of_succ_le hn)
    rw [State.clockedOut_clockedOut] at hslot
    have hall := hslot.trans (ih (Nat.le_of_succ_le hn) _)
    rw [bitsMsbFirst, List.flatMap_cons, ← List.append_assoc, List.length_append, Nat.add_mul]
    exact hall

/-- The clocked lead-in of either frame (rules R112, R116, R120). -/
theorem GeneratorRun.leadIn (hlead : s.txstate = .leadMark) :
    GeneratorRun ((s.cfg.leadMark.toNat + (if s.rpt then s.cfg.rptSpace else s.cfg.leadSpace).toNat) * s.cfg.hpPerUnit)
      (s.startBurst true s.cfg.leadMark)
      ((s.clockedOut false (List.replicate s.cfg.leadMark.toNat .mark ++
        List.replicate (if s.rpt then s.cfg.rptSpace else s.cfg.leadSpace).toNat .space)).setTx .bitSpace).burstDone := by
  obtain ⟨hmark, hspace, hrpt, -, -, -, -, -, hcycles⟩ := s.cfg.frameShape_iff.mp hshape
  have hmark0 : s.cfg.leadMark ≠ 0 := by rw [hmark]; decide
  have hspace0 : (if s.rpt then s.cfg.rptSpace else s.cfg.leadSpace) ≠ 0 := by
    rw [hspace, hrpt]
    cases s.rpt <;> decide
  have hmarkRun := GeneratorRun.burst hbusy hhold true hcycles hmark0
  have hspaceRun := GeneratorRun.burst
    (s := (s.clockedOut true (List.replicate s.cfg.leadMark.toNat .mark)).setTx .leadSpace) hbusy hhold false hcycles hspace0
  rw [State.burstDone_of_leadMark (s := s.clockedOut true _) hlead, State.writeIr_clockedOut, State.clockedOut_rpt,
    State.clockedOut_cfg] at hmarkRun
  rw [State.clockedOut_setTx, State.clockedOut_clockedOut, State.burstDone_leadSpace] at hspaceRun
  rw [Nat.add_mul]
  exact hmarkRun.trans hspaceRun

/-- The clocked end marker, once no slot is left to send (rules R114, R120). -/
theorem GeneratorRun.endMarker (hbits : s.bitcnt = 0) :
    GeneratorRun (s.cfg.endMark.toNat * s.cfg.hpPerUnit) (s.setTx .bitSpace).burstDone
      ((s.clockedOut true (List.replicate s.cfg.endMark.toNat .mark)).restTransmitter s.sr).resume := by
  obtain ⟨-, -, -, -, -, -, hmark, -, hcycles⟩ := s.cfg.frameShape_iff.mp hshape
  have hmark0 : s.cfg.endMark ≠ 0 := by rw [hmark]; decide
  have hstart : (s.setTx .bitSpace).burstDone = ((s.writeIr false).setTx .endMark).startBurst true s.cfg.endMark :=
    if_pos hbits
  have hrun := GeneratorRun.burst (s := (s.writeIr false).setTx .endMark) hbusy hhold true hcycles hmark0
  rw [State.clockedOut_setTx, State.clockedOut_writeIr, State.burstDone_endMark (s := s.clockedOut true _) hbits] at hrun
  rw [hstart]
  exact hrun

/-- The clocked end marker of a command frame (rules R114, R120). -/
theorem GeneratorRun.endMarker_atSlot (f : Frame) :
    GeneratorRun (s.cfg.endMark.toNat * s.cfg.hpPerUnit) (s.atSlot f 0).burstDone
      ((s.clockedOut true (List.replicate s.cfg.endMark.toNat .mark)).restTransmitter 0).resume := by
  have hend := GeneratorRun.endMarker (s := s.atSlot f 0) (by rwa [State.atSlot_cfg])
    ((s.atSlot_phase f 0).trans hbusy) ((s.atSlot_holdcnt f 0).trans hhold) (s.atSlot_bitcnt f 0)
  rwa [State.atSlot_zero_sr, State.atSlot_setTx, State.clockedOut_atSlot, State.restTransmitter_atSlot,
    State.atSlot_cfg] at hend

/-- A loaded command frame, clocked from its lead-in to its end (rules R111, R120). -/
theorem GeneratorRun.commandFrame (hlead : s.txstate = .leadMark) (hrpt : s.rpt = false) (hbits : s.bitcnt = 32) :
    GeneratorRun ((commandUnits s.cfg s.sr).length * s.cfg.hpPerUnit) (s.startBurst true s.cfg.leadMark)
      ((s.clockedOut true (commandUnits s.cfg s.sr)).restTransmitter 0).resume := by
  obtain ⟨-, -, -, -, -, -, -, hframe, -⟩ := s.cfg.frameShape_iff.mp hshape
  have hleadIn := GeneratorRun.leadIn hshape hbusy hhold hlead
  rw [hrpt, if_neg Bool.false_ne_true, State.setTx_bitSpace_eq_atSlot (s := s.clockedOut false _) hbits,
    State.clockedOut_sr] at hleadIn
  have hslots := GeneratorRun.slots hshape hbusy hhold s.sr (Nat.le_refl 32)
    (List.replicate s.cfg.leadMark.toNat .mark ++ List.replicate s.cfg.leadSpace.toNat .space)
  have hend := GeneratorRun.endMarker_atSlot (s := s.clockedOut false (List.replicate s.cfg.leadMark.toNat .mark ++
    List.replicate s.cfg.leadSpace.toNat .space ++ (bitsMsbFirst s.sr 32).flatMap (slotUnits s.cfg))) hshape hbusy hhold s.sr
  rw [State.clockedOut_clockedOut, State.clockedOut_cfg] at hend
  have hall := (hleadIn.trans hslots).trans hend
  rw [commandUnits, show s.cfg.frameBits.toNat = 32 by rw [hframe]; rfl]
  simp only [List.length_append, List.length_replicate, Nat.add_mul] at hall ⊢
  exact hall

/-- A loaded repeat frame (rules R116, R120). -/
theorem GeneratorRun.repeatFrame (hlead : s.txstate = .leadMark) (hrpt : s.rpt = true) (hbits : s.bitcnt = 0) :
    GeneratorRun ((repeatUnits s.cfg).length * s.cfg.hpPerUnit) (s.startBurst true s.cfg.leadMark)
      ((s.clockedOut true (repeatUnits s.cfg)).restTransmitter s.sr).resume := by
  have hleadIn := GeneratorRun.leadIn hshape hbusy hhold hlead
  rw [hrpt, if_pos rfl] at hleadIn
  have hend := GeneratorRun.endMarker (s := s.clockedOut false
    (List.replicate s.cfg.leadMark.toNat .mark ++ List.replicate s.cfg.rptSpace.toNat .space)) hshape hbusy hhold hbits
  rw [State.clockedOut_clockedOut, State.clockedOut_cfg, State.clockedOut_sr] at hend
  have hall := hleadIn.trans hend
  rw [repeatUnits]
  simp only [List.length_append, List.length_replicate, Nat.add_mul] at hall ⊢
  exact hall

end

/-! ### The frame that is sent whole -/

/-- The samples of units, one event a half-period, are their events in half-period steps. -/
theorem halfPeriodSteps_units (c : Config) (us : List Sym) :
    halfPeriodSteps ((pinLevelOfUnits c.cyclesPerUnit.toNat us).map (.ir · 1)) =
      halfPeriodSteps (us.flatMap (unitEvents c)) := by
  have hsamples (l : List Bool) : halfPeriodSteps (l.map (.ir · 1)) = l.map (.inl ∘ .pin) := by
    induction l with
    | nil => rfl
    | cons b l ih => exact congrArg (.inl (.pin b) :: ·) ih
  have hevents (es : List Event) (h : ∀ e ∈ es, ∃ b n, e = .ir b n) :
      halfPeriodSteps es = (pinLevel es).map (.inl ∘ .pin) := by
    rw [halfPeriodSteps, pinLevel, List.map_flatMap]
    refine List.flatMap_congr fun e he => ?_
    obtain ⟨b, n, rfl⟩ := h e he
    exact (List.map_replicate (f := Sum.inl ∘ Sample.pin)).symm
  rw [hsamples, hevents _ fun _ => mem_flatMap_unitEvents, pinLevel_units]

theorem State.clockedOut_eq (s : State) (m : Bool) (us : List Sym) :
    s.clockedOut m us = ((s.emits ((pinLevelOfUnits s.cfg.cyclesPerUnit.toNat us).map (.ir · 1))).wait
      (us.length * s.cfg.hpPerUnit)).restGenerator m := by
  rw [State.clockedOut, State.shown, length_pinLevelOfUnits, s.cfg.hpPerUnit_eq]

/-- The clocked machine has played what `State.played` says, but for how the trace groups the half-periods. -/
theorem State.clockedOut_untraced (s : State) (m : Bool) (us : List Sym) :
    (s.clockedOut m us).untraced = (s.played m us).untraced := by
  rw [State.clockedOut_eq, State.played_eq]
  rfl

theorem State.halfPeriodSteps_clockedOut (s : State) (m : Bool) (us : List Sym) :
    halfPeriodSteps (s.clockedOut m us).trace = halfPeriodSteps (s.played m us).trace := by
  rw [State.clockedOut_eq, State.played_eq]
  simp only [State.restGenerator_trace, State.wait_trace, State.emits_trace, halfPeriodSteps_append, halfPeriodSteps_units]

/-- The clocked machine once it has sent a frame with the unit-level trace `us`: as `State.sent`, with one event a
half-period, and the loop resumed after the step that called (rules R16, R120). -/
def State.clockedSent (s : State) (sr : Frame) (repeated : Bool) (us : List Sym) : State :=
  ((((s.loadFrame sr 0 repeated).setPhase .busy).clockedOut true us).restTransmitter sr).resume

theorem State.clockedSent_untraced {s : State} (hphase : s.phase ∈ [Phase.p5, .p7]) (sr : Frame) (r : Bool) (us : List Sym) :
    (s.clockedSent sr r us).untraced = { s.sent sr r us with phase := s.phase.next }.untraced := by
  have hret : (s.phase.toRet s.ret).phase = s.phase := by
    simp only [List.mem_cons, List.not_mem_nil, or_false] at hphase
    rcases hphase with h | h <;> rw [h] <;> rfl
  have hcommute (t : State) : (t.restTransmitter sr).resume.untraced = (t.untraced.restTransmitter sr).resume := rfl
  rw [State.clockedSent, hcommute, State.clockedOut_untraced, ← congrArg Phase.next hret]
  rfl

theorem State.halfPeriodSteps_clockedSent (s : State) (sr : Frame) (r : Bool) (us : List Sym) :
    halfPeriodSteps (s.clockedSent sr r us).trace = halfPeriodSteps (s.sent sr r us).trace :=
  State.halfPeriodSteps_clockedOut ((s.loadFrame sr 0 r).setPhase .busy) true us

section
variable {s : State} (hshape : s.cfg.frameShape = true) (hhold : s.holdcnt = 0) (hc : s.world.calm = true)
  (hp : s.world.pending = [])
include hshape hhold hc hp

/-- The whole clocked command frame. -/
theorem State.clockRun_startTransmit (a k : Byte) (hs : s.slack (121 * s.cfg.hpPerUnit)) :
    State.clockRun (121 * s.cfg.hpPerUnit) (s.startTransmit a k) =
      s.clockedSent 0 false (commandUnits s.cfg (necFrame a k)) := by
  obtain ⟨-, -, -, -, -, -, -, hbits, -⟩ := s.cfg.frameShape_iff.mp hshape
  have hrun := GeneratorRun.commandFrame (s := (s.loadFrame (necFrame a k) s.cfg.frameBits false).setPhase .busy)
    hshape rfl hhold rfl rfl hbits
  rw [State.setPhase_cfg, State.loadFrame_cfg, State.setPhase_sr, State.loadFrame_sr, length_commandUnits hshape] at hrun
  exact hrun.clockRun hc hp hs

/-- The whole clocked repeat frame. -/
theorem State.clockRun_startRepeat (hs : s.slack (21 * s.cfg.hpPerUnit)) :
    State.clockRun (21 * s.cfg.hpPerUnit) s.startRepeat = s.clockedSent s.sr true (repeatUnits s.cfg) := by
  have hlen : (repeatUnits s.cfg).length = 21 := by
    rw [repeatUnits_of_frameShape hshape]
    rfl
  have hrun := GeneratorRun.repeatFrame (s := (s.loadFrame s.sr 0 true).setPhase .busy) hshape rfl hhold rfl rfl rfl
  rw [State.setPhase_cfg, State.loadFrame_cfg, State.setPhase_sr, State.loadFrame_sr, hlen] at hrun
  exact hrun.clockRun hc hp hs

end

/-- Settles O60: clocked from lead-in to end marker, a frame is one generator run after another, and they leave what the frame
played whole leaves. -/
theorem clockedTransmit : Obligations.ClockedTransmit := by
  intro a k s hrest hphase hshape hc hp hs
  have hhold : s.holdcnt = 0 := by
    simp only [State.atRest, Bool.and_eq_true, beq_iff_eq] at hrest
    obtain ⟨-, -, hhold⟩ := hrest
    exact hhold
  refine ⟨⟨s.transmit a k, rfl, ?_⟩, s.transmitRepeat, rfl, ?_⟩
  · rw [State.transmit_of_frameShape hshape, State.clockRun_startTransmit hshape hhold hc hp a k hs]
    exact ⟨State.clockedSent_untraced hphase _ _ _, State.halfPeriodSteps_clockedSent _ _ _ _⟩
  · have hs21 : s.slack (21 * s.cfg.hpPerUnit) := State.slack_mono hs (by omega)
    rw [State.transmitRepeat_eq, State.clockRun_startRepeat hshape hhold hc hp hs21]
    exact ⟨State.clockedSent_untraced hphase _ _ _, State.halfPeriodSteps_clockedSent _ _ _ _⟩

end Sys2Proof.Machine

/-! PROOFS. The lead-in of a command frame, unit by unit and on the pin (rule R112). -/

namespace Sys2Proof.Machine

/-- The first `n` units of a waveform are its first `2 k n` samples (rules R80, R105). -/
theorem take_pinLevelOfUnits (k n : Nat) (us : List Sym) :
    (pinLevelOfUnits k us).take (n * (2 * k)) = pinLevelOfUnits k (us.take n) := by
  induction us generalizing n with
  | nil => simp [pinLevelOfUnits]
  | cons u us ih =>
    have hcons (vs : List Sym) : pinLevelOfUnits k (u :: vs) = u.pinLevels k ++ pinLevelOfUnits k vs := List.flatMap_cons
    cases n with
    | zero => simp [pinLevelOfUnits]
    | succ n =>
      have hsize : (n + 1) * (2 * k) = (u.pinLevels k).length + n * (2 * k) := by
        rw [Sym.length_pinLevels, Nat.add_mul, Nat.one_mul, Nat.add_comm]
      rw [hsize, hcons, List.take_length_add_append, ih, List.take_succ_cons, hcons]

/-- What a frame sends, seen on the pin. -/
theorem State.pinLevel_sent (s : State) (f : Frame) (r : Bool) (us : List Sym) :
    pinLevel (s.newEvents (s.sent f r us)) = pinLevelOfUnits s.cfg.cyclesPerUnit.toNat us := by
  rw [State.newEvents_of_append _ _ _ (State.sent_trace s f r us), pinLevel_units]

/-- A command frame begins with its lead-in, whatever its operands (rule R112). -/
theorem take_commandUnits {c : Config} (h : c.frameShape = true) (a k : Byte) :
    (commandUnits c (necFrame a k)).take 24 = List.replicate 16 .mark ++ List.replicate 8 .space := by
  rw [commandUnits_of_frameShape h, List.append_assoc]
  exact List.take_left' rfl

/-- Settles O13: the frame's first 24 units are the lead-in, and 24 units are the first 1008 samples. -/
theorem leadIn : Obligations.LeadIn := by
  intro a k s h h21 htime
  obtain ⟨-, -, -, -, -, -, -, -, hcycles⟩ := s.cfg.frameShape_iff.mp h
  have hns (n : Nat) : s.cfg.nominalNsOfUnits n = n * 562500 := by rw [Config.nominalNsOfUnits, htime]
  have hpin := take_pinLevelOfUnits 21 24 (commandUnits s.cfg (necFrame a k))
  refine ⟨s.transmit a k, commandUnits s.cfg (necFrame a k), rfl, ?_, take_commandUnits h a k, ?_, ?_, hns 16, hns 8, hns 24⟩
  · rw [State.transmit_of_frameShape h, State.unitsOf_sent hcycles]
  · rw [s.cfg.hpPerUnit_eq, h21]
    rfl
  · rw [take_commandUnits h] at hpin
    rw [State.transmit_of_frameShape h, State.pinLevel_sent, h21]
    exact hpin

end Sys2Proof.Machine

/-! PROOFS. The relay: two calls of `AMP_ON` (rule R146), and a reset in the middle of a pulse (rules R204, R230, R233). -/

namespace Sys2Proof.Machine

/-! ### `AMP_ON` twice -/

theorem State.ampOn_whole_cfg (s : State) : (s.ampOn State.relayPulse).cfg = s.cfg := (Grows.ampOn s Grows.pulsed).cfg

/-- `AMP_ON` cancels the off-delay on both paths (rule R145). -/
theorem State.ampOn_offt (s : State) (pulse : State → State) : (s.ampOn pulse).offt = 0 := rfl

/-- `AMP_ON` pulses once if the amplifier reads OFF, and not at all if it reads ON (rule R140). -/
theorem State.ampOn_whole_trace (s : State) :
    ∃ es, (s.ampOn State.relayPulse).trace = s.trace ++ es ∧ pulses es = if s.ampSense then 0 else 1 := by
  rw [State.ampOn_whole]
  cases s.ampSense
  · exact ⟨pulseEvents s.cfg, rfl, rfl⟩
  · exact ⟨[.log .alreadyOn], rfl, rfl⟩

/-- The state with another level at the amplifier's sense pin. -/
def State.withAmpPin (s : State) (p : Bool) : State := { s with world := { s.world with ampPin := p } }

theorem State.withAmpPin_ampSense (s : State) (p : Bool) :
    (s.withAmpPin p).ampSense = throughPolarity s.cfg.ampSensePol p := rfl

/-- Settles O22: the two calls' events stand one after the other, and each call pulses by its own sample. -/
theorem ampOnTwice : Obligations.AmpOnTwice := by
  intro i s p hi
  have hexec (v : State) : exec i v = .next (v.ampOn State.relayPulse) := by rcases hi with rfl | rfl | rfl <;> rfl
  obtain ⟨es, hes, hpulses⟩ := s.ampOn_whole_trace
  obtain ⟨fs, hfs, hpulses'⟩ := ((s.ampOn State.relayPulse).withAmpPin p).ampOn_whole_trace
  have htrace : (((s.ampOn State.relayPulse).withAmpPin p).ampOn State.relayPulse).trace = s.trace ++ (es ++ fs) := by
    rw [hfs, ← List.append_assoc, ← hes]
    rfl
  refine ⟨_, _, hexec s, hexec ((s.ampOn State.relayPulse).withAmpPin p), ?_, State.ampOn_offt _ _⟩
  rw [State.newEvents_of_append _ _ _ htrace, pulses_append, hpulses, hpulses', State.withAmpPin_ampSense,
    State.ampOn_whole_cfg]

/-! ### Steps that pulse the relay -/

/-- From `v` to `t` there was one whole pulse and nothing else that took time or showed in the trace (rule R142). -/
structure EndsPulse (v t : State) : Prop where
  resets : t.resets = v.resets
  trace : t.trace = v.trace ++ pulseEvents v.cfg
  elapsed : t.elapsed = v.elapsed + v.cfg.relayHold.toNat
  rstAt : t.world.rstAt = v.world.rstAt
  wdtTrip : t.world.wdtTrip = (v.world.tick v.cfg.wdtPeriod v.elapsed v.cfg.relayHold.toNat).wdtTrip

namespace EndsPulse

/-- `AMP_ON` while the amplifier reads OFF (rule R140). -/
theorem ampOn {v : State} (h : v.ampSense = false) : EndsPulse v (v.ampOn State.relayPulse) := by
  rw [State.ampOn_whole, h]
  exact ⟨rfl, rfl, rfl, rfl, rfl⟩

/-- `AMP_OFF` while the amplifier reads ON (rule R141). -/
theorem ampOff {v : State} (h : v.ampSense = true) : EndsPulse v (v.ampOff State.relayPulse) := by
  rw [State.ampOff_whole, h]
  exact ⟨rfl, rfl, rfl, rfl, rfl⟩

variable {v t : State}

theorem setSrcPrev (h : EndsPulse v t) (b : Bool) : EndsPulse v (t.setSrcPrev b) :=
  ⟨h.resets, h.trace, h.elapsed, h.rstAt, h.wdtTrip⟩

theorem nextPhase (h : EndsPulse v t) : EndsPulse v t.nextPhase := ⟨h.resets, h.trace, h.elapsed, h.rstAt, h.wdtTrip⟩

/-- The serial poll comes before the pulse, takes no time and does not show in the trace (rule R165). -/
theorem of_pollSerial (h : EndsPulse v.pollSerial t) : EndsPulse v t := ⟨h.resets, h.trace, h.elapsed, h.rstAt, h.wdtTrip⟩

end EndsPulse

/-- The bytes of `AMP_ON` (rules R72, R165). -/
theorem State.dispatchSerial_of_ampOn_byte (s : State) (e : Engine) {p : Option Byte}
    (h : p ∈ [some 0x6E, some 0x4E, some 0x31]) : s.dispatchSerial e p = s.ampOn e.pulse := by
  simp only [List.mem_cons, List.not_mem_nil, or_false] at h
  rcases h with rfl | rfl | rfl <;> rfl

/-- The bytes of `AMP_OFF` (rules R72, R165). -/
theorem State.dispatchSerial_of_ampOff_byte (s : State) (e : Engine) {p : Option Byte}
    (h : p ∈ [some 0x66, some 0x46, some 0x30]) : s.dispatchSerial e p = s.ampOff e.pulse := by
  simp only [List.mem_cons, List.not_mem_nil, or_false] at h
  rcases h with rfl | rfl | rfl <;> rfl

/-- The step from `s` is one of the three that can pulse the relay, and its body does. -/
def State.pulsesRelay (s : State) : Prop :=
  s.phase ∈ [.p3, .p4, .p5] ∧ EndsPulse s.startStep (s.startStep.phaseBody Engine.whole)

/-- Such a step is none of those that a host's call, the loop's own time or an operation in progress makes longer. -/
theorem State.pulsesRelay.phase_ne {s : State} (h : s.pulsesRelay) : s.phase ≠ .p1 ∧ s.phase ≠ .p2 ∧ s.phase ≠ .busy := by
  obtain ⟨hphase, -⟩ := h
  refine ⟨?_, ?_, ?_⟩ <;> intro hp <;> simp [hp] at hphase

theorem State.pulsesRelay.begun {s : State} (h : s.pulsesRelay) : Begun s s.startStep :=
  let ⟨_, h2, hb⟩ := h.phase_ne
  .startStep hb h2

section
variable {s : State}

/-- Step 3 on a rising edge of the source while the amplifier reads OFF (rule R163). -/
theorem State.pulsesRelay_of_rise (hp : s.phase = .p3) (hprev : s.srcPrev = false) (hsrc : s.srcSense = true)
    (hamp : s.ampSense = false) : s.pulsesRelay := by
  refine ⟨by simp [hp], ?_⟩
  rw [State.phaseBody_p3 _ (s.startStep_phase.trans hp),
    State.step3_of_rise _ (s.startStep_srcPrev.trans hprev) (s.startStep_srcSense.trans hsrc)]
  exact ((EndsPulse.ampOn (s.startStep_ampSense.trans hamp)).setSrcPrev true).nextPhase

/-- Step 4 when the off-delay fires while the amplifier reads ON (rule R164). -/
theorem State.pulsesRelay_of_offt (hp : s.phase = .p4) (hofft : s.offt = 1) (hamp : s.ampSense = true) : s.pulsesRelay := by
  refine ⟨by simp [hp], ?_⟩
  rw [State.phaseBody_p4 _ (s.startStep_phase.trans hp), State.step4_eq, s.startStep_offt, hofft]
  exact (EndsPulse.ampOff (s.startStep_ampSense.trans hamp)).nextPhase

/-- Step 5 with a byte of `AMP_ON` while the amplifier reads OFF (rule R165). -/
theorem State.pulsesRelay_of_ampOn (hp : s.phase = .p5) (hb : s.world.serial ∈ [some 0x6E, some 0x4E, some 0x31])
    (hamp : s.ampSense = false) : s.pulsesRelay := by
  refine ⟨by simp [hp], ?_⟩
  rw [State.phaseBody_p5 _ (s.startStep_phase.trans hp), State.step5, State.pollSerial_serLat, s.startStep_serial,
    State.dispatchSerial_of_ampOn_byte _ _ hb]
  exact (EndsPulse.ampOn (v := s.startStep.pollSerial) (s.startStep_ampSense.trans hamp)).of_pollSerial.nextPhase

/-- Step 5 with a byte of `AMP_OFF` while the amplifier reads ON (rule R165). -/
theorem State.pulsesRelay_of_ampOff (hp : s.phase = .p5) (hb : s.world.serial ∈ [some 0x66, some 0x46, some 0x30])
    (hamp : s.ampSense = true) : s.pulsesRelay := by
  refine ⟨by simp [hp], ?_⟩
  rw [State.phaseBody_p5 _ (s.startStep_phase.trans hp), State.step5, State.pollSerial_serLat, s.startStep_serial,
    State.dispatchSerial_of_ampOff_byte _ _ hb]
  exact (EndsPulse.ampOff (v := s.startStep.pollSerial) (s.startStep_ampSense.trans hamp)).of_pollSerial.nextPhase

end

/-! ### The cut of a pulse -/

/-- A cut within the hold leaves the coil active and the hold shortened (rule R233). -/
theorem cutEvents_pulseEvents {c : Config} {k : Nat} (hk : 0 < k) (hkn : k < c.relayHold.toNat) :
    cutEvents k (pulseEvents c) = [.relay true, .hold k] := by
  simp [pulseEvents, cutEvents, show ¬ c.relayHold.toNat ≤ k by omega, hk.ne']

/-- Where the next reset comes before the step from `s` is over in `t`, it cuts the step (rule R233). -/
theorem State.conclude_of_resetWithin {s t : State} {d n : Nat} (h : s.resetWithin d n) (hdn : d < n)
    (hresets : t.resets = s.resets) (helapsed : t.elapsed = s.elapsed + n) (hrstAt : t.world.rstAt = s.world.rstAt)
    (hwdtTrip : t.world.wdtTrip = (s.world.tick s.cfg.wdtPeriod s.elapsed n).wdtTrip) :
    s.conclude t = s.cutAt t (s.elapsed + d) := by
  rw [State.conclude, if_neg (not_not.mpr hresets), State.nextReset_of_resetWithin h hdn hrstAt hwdtTrip]
  exact if_pos (by omega)

/-- The trace after a cut once the step's body has begun: the events before the cut, then the outputs forced off that those
events leave active (rules R231, R233). -/
theorem State.cutAt_trace_of_body {s t : State} {n k : Nat} (hn : s.startStep.elapsed + k = n) {es : List Event}
    (hes : cutEvents k (s.newEvents t) = es) :
    (s.cutAt t n).trace = s.trace ++ (es ++ ((if relayAfter s.relay es then [.relay false] else []) ++
      if ledAfter s.led es then [.led false] else [])) := by
  subst hn hes
  rw [State.cutAt, if_neg (by omega), Nat.add_sub_cancel_left, State.takeReset_eq, State.enterReset_trace,
    List.append_assoc]
  rfl

/-- A reset that comes `k` half-periods into the pulse of a step cuts it there (rule R233). -/
theorem State.pulsesRelay.step_eq_cutAt {s : State} {k : Nat} (h : s.pulsesRelay)
    (hreset : s.resetWithin (s.world.stall + k) (s.world.stall + s.cfg.relayHold.toNat)) (hk : 0 < k)
    (hkn : k < s.cfg.relayHold.toNat) :
    step s = .next (s.cutAt (s.startStep.phaseBody Engine.whole) (s.elapsed + s.world.stall + k)).advance := by
  have hbegun := h.begun
  obtain ⟨h1, -, hb⟩ := h.phase_ne
  obtain ⟨-, hend⟩ := h
  have hcut : s.conclude (s.startStep.phaseBody Engine.whole) =
      s.cutAt (s.startStep.phaseBody Engine.whole) (s.elapsed + (s.world.stall + k)) := by
    refine State.conclude_of_resetWithin hreset (by omega) (hend.resets.trans hbegun.resets) ?_
      (hend.rstAt.trans hbegun.rstAt) ?_
    · rw [hend.elapsed, hbegun.elapsed, hbegun.cfg, Nat.add_assoc]
    · rw [hend.wdtTrip, hbegun.cfg, hbegun.elapsed, hbegun.wdtTrip]
  rw [step_eq_under s hb (fun hp => absurd hp h1), State.under,
    State.resetDue_of_resetWithin hreset (by omega), if_neg Bool.false_ne_true, hcut, Nat.add_assoc]

/-- Settles O55: each of the four steps pulses the relay, the reset finds the coil active, and forces it and a lit LED off. -/
theorem resetCutsPulse : Obligations.ResetCutsPulse := by
  intro s k hcase hreset hk hkn
  have hpulse : s.pulsesRelay := by
    rcases hcase with ⟨hp, hprev, hsrc, hamp⟩ | ⟨hp, hofft, hamp⟩ | ⟨hp, hb, hamp⟩ | ⟨hp, hb, hamp⟩
    · exact State.pulsesRelay_of_rise hp hprev hsrc hamp
    · exact State.pulsesRelay_of_offt hp hofft hamp
    · exact State.pulsesRelay_of_ampOn hp hb hamp
    · exact State.pulsesRelay_of_ampOff hp hb hamp
  have hstep := hpulse.step_eq_cutAt hreset hk hkn
  have hstart : s.startStep.elapsed + k = s.elapsed + s.world.stall + k := by rw [hpulse.begun.elapsed]
  obtain ⟨-, hend⟩ := hpulse
  have hcutEvents : cutEvents k (s.newEvents (s.startStep.phaseBody Engine.whole)) = [.relay true, .hold k] := by
    rw [State.newEvents_of_append s _ (pulseEvents s.cfg) (by simpa using hend.trace), cutEvents_pulseEvents hk hkn]
  have htrace := State.cutAt_trace_of_body hstart hcutEvents
  obtain ⟨u, hu, hresets, helapsed, -⟩ := State.cutAt_of_body (t := s.startStep.phaseBody Engine.whole) hstart
  rw [hu] at hstep htrace
  refine ⟨u.enterReset.advance, hstep, ?_, ?_⟩
  · rw [State.newEvents_of_append _ _ _ ((State.advance_trace _).trans htrace)]
    cases s.led <;> rfl
  · simp [hresets, hend.resets, helapsed]

end Sys2Proof.Machine

/-! PROOFS. `MUTE`: its frame as the listener reads it, sent from the state itself or, by record, with the LED lit before (rule
R152). -/

namespace Sys2Proof.Machine

section
variable {s v : State}

/-- What `TRANSMIT` adds to the trace. -/
theorem State.newEvents_transmit (h : s.cfg.frameShape = true) (a k : Byte) :
    s.newEvents (s.transmit a k) = (commandUnits s.cfg (necFrame a k)).flatMap (unitEvents s.cfg) := by
  rw [State.transmit_of_frameShape h, State.newEvents_of_append _ _ _ (State.sent_trace _ _ _ _)]

/-- With the LED armed first, its event comes before the frame's (rules R170, R171). -/
theorem State.newEvents_armLed_transmit (h : s.cfg.frameShape = true) (a k : Byte) :
    s.newEvents (s.armLed.transmit a k) = .led true :: s.newEvents (s.transmit a k) := by
  have harmed : s.armLed.cfg.frameShape = true := h
  rw [State.newEvents_transmit h, State.transmit_of_frameShape harmed]
  exact State.newEvents_of_append _ _ _ (by simp)

/-- The pin shows the command frame, whether the LED was armed first or not. -/
theorem State.unitsOf_newEvents_transmit (hv : v = s ∨ v = s.armLed) (h : s.cfg.frameShape = true) (a k : Byte) :
    unitsOf s.cfg (s.newEvents (v.transmit a k)) = some (commandUnits s.cfg (necFrame a k)) := by
  obtain ⟨-, -, -, -, -, -, -, -, hcycles⟩ := s.cfg.frameShape_iff.mp h
  have hframe : unitsOf s.cfg (s.newEvents (s.transmit a k)) = some (commandUnits s.cfg (necFrame a k)) := by
    rw [State.newEvents_transmit h, unitsOf_units hcycles]
  rcases hv with rfl | rfl
  · exact hframe
  · rw [State.newEvents_armLed_transmit h]
    exact hframe

/-- Neither the frame nor the LED before it pulses the relay. -/
theorem State.pulses_newEvents_transmit (hv : v = s ∨ v = s.armLed) (h : s.cfg.frameShape = true) (a k : Byte) :
    pulses (s.newEvents (v.transmit a k)) = 0 := by
  have hframe : pulses (s.newEvents (s.transmit a k)) = 0 := by rw [State.newEvents_transmit h, pulses_units]
  rcases hv with rfl | rfl
  · exact hframe
  · rw [State.newEvents_armLed_transmit h]
    exact hframe

/-- Nor do they write the coil, the off-delay and the previous samples. -/
theorem State.transmit_keeps (hv : v = s ∨ v = s.armLed) (a k : Byte) :
    (v.transmit a k).relay = s.relay ∧ (v.transmit a k).offt = s.offt ∧ (v.transmit a k).ampPrev = s.ampPrev ∧
      (v.transmit a k).srcPrev = s.srcPrev := by
  obtain ⟨f, us, hus⟩ := v.transmit_eq_sent a k
  rw [hus]
  rcases hv with rfl | rfl <;> simp

end

/-- The address and the command of `MUTE` make this frame (rules R76, R110, R152). -/
theorem necFrame_mute : necFrame 0x11 0x60 = 0x11EE609F := by decide

/-- Each way to `MUTE` is one `TRANSMIT`, by record with the LED armed first (rules R72, R74, R152). -/
theorem exec_mute {i : Instr} {s : State} {toggle : Bool}
    (hi : i = .serMuteLowerM ∨ i = .serMuteUpperM ∨ i = .rcMute toggle) :
    exec i s = .next ((if i = .rcMute toggle then s.armLed else s).transmit s.cfg.necAddr s.cfg.cmdMute) := by
  rcases hi with rfl | rfl | rfl
  · exact exec_serial_command (.inr (.inr ⟨.inl rfl, rfl⟩))
  · exact exec_serial_command (.inr (.inr ⟨.inr rfl, rfl⟩))
  · rw [if_pos rfl]
    exact exec_record_command (.inr (.inr ⟨rfl, rfl⟩))

/-- Settles O25: the command is that `TRANSMIT`, from the state or from the state with the LED armed, and the listener reads
its frame. -/
theorem muteFrame : Obligations.MuteFrame := by
  intro i s toggle h haddr hcmd hi
  have hexec := exec_mute (s := s) hi
  have hstart : (if i = .rcMute toggle then s.armLed else s) = s ∨
      (if i = .rcMute toggle then s.armLed else s) = s.armLed := (ite_eq_or_eq _ _ _).symm
  have hlisten := listen_commandUnits h (necFrame 0x11 0x60)
  rw [haddr, hcmd] at hexec
  rw [necFrame_mute] at hlisten
  exact ⟨_, _, _, hexec, rfl, .refl _ _, State.unitsOf_newEvents_transmit hstart h 0x11 0x60, length_commandUnits h 0x11 0x60,
    hlisten, State.pulses_newEvents_transmit hstart h 0x11 0x60, State.transmit_keeps hstart 0x11 0x60⟩

end Sys2Proof.Machine

/-! PROOFS. The watchdog's budget (rules R178, R242): the time that a step and a host's call take off it, and that no step
overdraws it. -/

namespace Sys2Proof.Machine

/-! ### The time that operations take -/

/-- The world without what its pins, its amplifier and its mailboxes show: the watchdog's clock, and what is to come. -/
def World.schedule (w : World) : World :=
  { w with ampPin := false, srcPin := false, ampPower := false, serial := none, decoder := Decoder.initial }

/-- From `s` to `t` just `n` half-periods pass, without a service of the watchdog. -/
structure Takes (n : Nat) (s t : State) : Prop where
  cfg : t.cfg = s.cfg
  schedule : t.world.schedule = (s.world.tick s.cfg.wdtPeriod s.elapsed n).schedule

namespace Takes

theorem of_schedule {s t : State} (hc : t.cfg = s.cfg) (hw : t.world.schedule = s.world.schedule) : Takes 0 s t :=
  ⟨hc, by rw [World.tick_zero, hw]⟩

theorem pulsed (s : State) (v : Timer) (b : Bool) :
    Takes s.cfg.relayHold.toNat s ((s.pulsed.setOfft v).withSampled b) := ⟨rfl, rfl⟩

theorem played (s : State) (m : Bool) (us : List Sym) : Takes (us.length * s.cfg.hpPerUnit) s (s.played m us) := ⟨rfl, rfl⟩

theorem sent (s : State) (f : Frame) (r : Bool) (us : List Sym) :
    Takes (us.length * s.cfg.hpPerUnit) s (s.sent f r us) := ⟨rfl, rfl⟩

/-- A command frame takes 121 units (rule R115). -/
theorem transmit {s : State} (h : s.cfg.frameShape = true) (a k : Byte) :
    Takes (121 * s.cfg.hpPerUnit) s (s.transmit a k) := by
  rw [State.transmit_of_frameShape h, ← length_commandUnits h a k]
  exact sent s _ _ _

/-- An operation on the relay and the off-delay takes no time, or a pulse's and leaves the off-delay cancelled (rule R145). -/
theorem ampEffect {s t : State} (h : AmpEffect s t) :
    Takes 0 s t ∨ Takes s.cfg.relayHold.toNat s t ∧ t.offt = 0 := by
  cases h with
  | quiet => exact .inl (.of_schedule rfl rfl)
  | pulse b => exact .inr ⟨pulsed s 0 b, rfl⟩

variable {n : Nat} {s t : State} (h : Takes n s t)
include h

theorem wdt : t.world.wdt = s.world.wdt + n := congrArg World.wdt h.schedule
theorem stall : t.world.stall = s.world.stall := by
  simpa [World.schedule] using congrArg World.stall h.schedule
theorem hostCall : t.world.hostCall = s.world.hostCall := by
  simpa [World.schedule] using congrArg World.hostCall h.schedule

/-- Within the watchdog's period that time brings no reset on its way (rule R210). -/
theorem calm (hc : s.world.calm = true) (hs : s.slack n) : t.world.calm = true :=
  (congrArg World.calm h.schedule).trans (State.wait_calm hc hs)

end Takes

/-- A serial command takes the time of one operation at most (rules R142, R165). -/
theorem State.dispatchSerial_takes {s : State} (hf : s.cfg.frameShape = true) (p : Option Byte) :
    ∃ n ≤ s.cfg.longestCall, Takes n s (s.dispatchSerial Engine.whole p) := by
  rcases s.dispatchSerial_cases p with heffect | ⟨k, hk⟩
  · rcases Takes.ampEffect heffect with htakes | ⟨htakes, -⟩
    · exact ⟨0, Nat.zero_le _, htakes⟩
    · exact ⟨_, Nat.le_max_left _ _, htakes⟩
  · rw [hk]
    exact ⟨_, Nat.le_max_right _ _, .transmit hf _ _⟩

/-- Acting on a record takes the time of one frame at most (rules R169 to R172). -/
theorem State.dispatchRecord_takes {s : State} (hf : s.cfg.frameShape = true) (r : RcRecord) :
    ∃ n ≤ 121 * s.cfg.hpPerUnit, Takes n s (s.dispatchRecord Engine.whole r) := by
  rcases s.dispatchRecord_cases r with ⟨e, he⟩ | ⟨e, he⟩ | ⟨k, he⟩ <;> rw [he]
  · exact ⟨0, Nat.zero_le _, .of_schedule rfl rfl⟩
  · exact ⟨0, Nat.zero_le _, .of_schedule rfl rfl⟩
  · have htakes := Takes.transmit (s := s.armLed) hf s.cfg.necAddr k
    exact ⟨_, Nat.le_refl _, htakes.cfg, htakes.schedule⟩

/-! ### What a step takes off the time that can still block (rule R178) -/

section
variable {s : State}

/-- A pulse in step 3 cancels the off-delay, so that step 4 has none (rules R145, R178). -/
theorem State.step3_takes : ∃ n, Takes n s (s.step3 Engine.whole) ∧
    n + (if (s.step3 Engine.whole).offt = 1 then s.cfg.relayHold.toNat else 0) ≤ s.cfg.relayHold.toNat := by
  obtain ⟨u, hu, he⟩ := AmpEffect.step3 s
  rw [he, State.setSrcPrev_offt]
  rcases Takes.ampEffect hu with htakes | ⟨htakes, hofft⟩
  · refine ⟨0, ⟨htakes.cfg, htakes.schedule⟩, ?_⟩
    split <;> omega
  · refine ⟨s.cfg.relayHold.toNat, ⟨htakes.cfg, htakes.schedule⟩, ?_⟩
    rw [hofft, if_neg (by decide)]
    exact Nat.le_refl _

/-- Step 4 pulses only where the off-delay fires (rule R164). -/
theorem State.step4_takes :
    ∃ n ≤ if s.offt = 1 then s.cfg.relayHold.toNat else 0, Takes n s (s.step4 Engine.whole) := by
  by_cases h1 : s.offt = 1
  · rw [if_pos h1]
    rcases Takes.ampEffect (AmpEffect.step4 s) with htakes | ⟨htakes, -⟩
    · exact ⟨0, Nat.zero_le _, htakes⟩
    · exact ⟨_, Nat.le_refl _, htakes⟩
  · rw [State.step4_eq, if_neg h1, if_neg h1]
    refine ⟨0, Nat.le_refl _, .of_schedule ?_ ?_⟩ <;> split <;> rfl

theorem State.step5_takes (hf : s.cfg.frameShape = true) :
    ∃ n ≤ s.cfg.longestCall, Takes n s (s.step5 Engine.whole) := by
  obtain ⟨n, hn, htakes⟩ := State.dispatchSerial_takes (s := s.pollSerial) hf s.pollSerial.serLat
  exact ⟨n, hn, htakes.cfg, htakes.schedule⟩

theorem State.step7_takes (hf : s.cfg.frameShape = true) :
    ∃ n ≤ 121 * s.cfg.hpPerUnit, Takes n s (s.step7 Engine.whole) := by
  cases hr : s.world.decoder.report with
  | none =>
    rw [State.step7_of_no_report _ hr]
    exact ⟨0, Nat.zero_le _, .of_schedule rfl rfl⟩
  | some r =>
    obtain ⟨n, hn, htakes⟩ := State.dispatchRecord_takes (s := (s.takeRecord r).rearm) hf r
    rw [State.step7_of_report _ hr]
    exact ⟨n, hn, htakes.cfg, htakes.schedule⟩

/-- What a step other than step 1 takes, and what can still block after it, can still block before it; the loop's own time is
charged to step 2 (rules R178, R242). -/
theorem State.phaseBody_takes (hf : s.cfg.frameShape = true) (hb : s.phase ≠ .busy) (h1 : s.phase ≠ .p1) :
    ∃ n, Takes n s (s.phaseBody Engine.whole) ∧
      s.loopTime + n + (s.phaseBody Engine.whole).blockingLeft ≤ s.blockingLeft := by
  have hworst := s.cfg.worstBlocking_eq
  have hphase := s.phaseBody_phase hb
  have htakes {n : Nat} {t : State} (ht : Takes n s t) (he : s.phaseBody Engine.whole = t.nextPhase) :
      Takes n s (s.phaseBody Engine.whole) ∧ (s.phaseBody Engine.whole).cfg = s.cfg :=
    he ▸ ⟨⟨ht.cfg, ht.schedule⟩, ht.cfg⟩
  have hloop (h2 : s.phase ≠ .p2) := State.loopTime_of_ne_p2 h2
  cases hp : s.phase <;> rw [hp] at hphase
  case p1 => exact absurd hp h1
  case p2 =>
    have hstep2 : Takes 0 s s.step2 := by rw [State.step2_eq]; exact .of_schedule rfl rfl
    obtain ⟨ht, hcfg⟩ := htakes hstep2 (State.phaseBody_p2 _ hp)
    refine ⟨0, ht, ?_⟩
    rw [State.blockingLeft_p2 hp, State.blockingLeft_p3 hphase, hcfg, State.loopTime, if_pos hp]
    exact Nat.le_refl _
  case p3 =>
    obtain ⟨n, hstep3, hn⟩ := s.step3_takes
    obtain ⟨ht, hcfg⟩ := htakes hstep3 (State.phaseBody_p3 _ hp)
    have hofft : (s.phaseBody Engine.whole).offt = (s.step3 Engine.whole).offt := by rw [State.phaseBody_p3 _ hp]; rfl
    refine ⟨n, ht, ?_⟩
    rw [State.blockingLeft_p3 hp, State.blockingLeft_p4 hphase, hcfg, hofft, hloop (by simp [hp])]
    omega
  case p4 =>
    obtain ⟨n, hn, hstep4⟩ := s.step4_takes
    obtain ⟨ht, hcfg⟩ := htakes hstep4 (State.phaseBody_p4 _ hp)
    refine ⟨n, ht, ?_⟩
    rw [State.blockingLeft_p4 hp, State.blockingLeft_p5 hphase, hcfg, hloop (by simp [hp])]
    omega
  case p5 =>
    obtain ⟨n, hn, hstep5⟩ := State.step5_takes hf
    obtain ⟨ht, hcfg⟩ := htakes hstep5 (State.phaseBody_p5 _ hp)
    refine ⟨n, ht, ?_⟩
    rw [State.blockingLeft_p5 hp, State.blockingLeft_p6 hphase, hcfg, hloop (by simp [hp])]
    omega
  case p6 =>
    have hstep6 : Takes 0 s s.step6 := .of_schedule (Grows.step6 s).cfg (congrArg World.schedule s.step6_world)
    obtain ⟨ht, hcfg⟩ := htakes hstep6 (State.phaseBody_p6 _ hp)
    refine ⟨0, ht, ?_⟩
    rw [State.blockingLeft_p6 hp, State.blockingLeft_p7 hphase, hcfg, hloop (by simp [hp])]
    omega
  case p7 =>
    obtain ⟨n, hn, hstep7⟩ := State.step7_takes hf
    obtain ⟨ht, -⟩ := htakes hstep7 (State.phaseBody_p7 _ hp)
    have hdone : (s.phaseBody Engine.whole).blockingLeft = 0 := by rw [State.blockingLeft, hphase]; rfl
    refine ⟨n, ht, ?_⟩
    rw [State.blockingLeft_p7 hp, hdone, hloop (by simp [hp])]
    omega
  case busy => exact absurd hp hb

end

/-! ### What the world still takes -/

theorem World.unforced_iff (w : World) : w.unforced = true ↔
    w.calm = true ∧ w.hostCall = none ∧ w.pending.all Stimulus.unforced = true := by
  simp only [World.unforced, Bool.and_eq_true, Option.isNone_iff_eq_none, and_assoc]

/-- What the world may do in a budget brings neither a reset nor a call. -/
theorem State.advance_unforced {s : State} (h : s.world.unforced = true) : s.advance.world.unforced = true := by
  obtain ⟨hcalm, hcall, hpending⟩ := (World.unforced_iff _).mp h
  obtain ⟨hrst, htrip⟩ := (World.calm_iff _).mp hcalm
  cases hp : s.world.pending with
  | nil => rwa [State.advance_of_pending_nil s hp]
  | cons x todo =>
    rw [hp, List.all_cons, Bool.and_eq_true, Stimulus.unforced, Bool.and_eq_true, Option.isNone_iff_eq_none,
      Option.isNone_iff_eq_none] at hpending
    obtain ⟨⟨hxrst, hxcall⟩, htodo⟩ := hpending
    rw [State.advance_of_pending_cons s x todo hp, World.unforced_iff, World.calm_iff]
    exact ⟨⟨by simp [World.absorb, hxrst, hrst], htrip⟩, by simp [World.absorb, hxcall, hcall], htodo⟩

/-- The windows that begin after the first of some times fit too. -/
theorem sum_take_le_of_windowsFit_cons {n used limit x : Nat} {xs : List Nat}
    (h : windowsFit n used limit (x :: xs) = true) : used + (xs.take n).sum ≤ limit := by
  cases xs with
  | nil =>
    have := sum_take_of_windowsFit h
    simp only [List.take_nil, List.sum_nil]
    omega
  | cons y ys => exact sum_take_of_windowsFit (windowsFit_tail h)

section
variable {s : State} (h : s.world.stall = 0)
include h

/-- Once the collaborators' time of a step is over, the times to come are those that the world still brings. -/
theorem State.advance_stalls_sum (k : Nat) :
    (s.advance.world.stalls.take k).sum = ((s.world.pending.map Stimulus.stall).take k).sum := by
  cases hp : s.world.pending with
  | nil =>
    rw [State.advance_of_pending_nil s hp, World.stalls, hp, h]
    cases k <;> simp
  | cons x todo => rw [State.advance_of_pending_cons s x todo hp]; rfl

theorem State.advance_fits {c : Config} {x : Nat}
    (hfits : windowsFit 7 (c.worstBlocking + c.iterPeriod) c.wdtPeriod (x :: s.world.pending.map Stimulus.stall) = true) :
    s.advance.world.fits c = true := by
  cases hp : s.world.pending with
  | nil =>
    have hroom := sum_take_of_windowsFit hfits
    rw [State.advance_of_pending_nil s hp, World.fits, World.stalls, hp, h]
    simp only [List.map_nil, windowsFit, Bool.and_true, decide_eq_true_iff]
    show _ + 0 ≤ _
    omega
  | cons y todo =>
    rw [hp] at hfits
    rw [State.advance_of_pending_cons s y todo hp]
    exact windowsFit_tail hfits

end

@[simp] theorem State.advance_blockingLeft (s : State) : s.advance.blockingLeft = s.blockingLeft := by
  simp only [State.blockingLeft, State.advance_phase, State.advance_cfg, State.advance_offt]

@[simp] theorem State.startStep_blockingLeft (s : State) : s.startStep.blockingLeft = s.blockingLeft := by
  simp only [State.blockingLeft, State.startStep_phase, State.startStep_cfg, State.startStep_offt]

@[simp] theorem State.startStep_loopTime (s : State) : s.startStep.loopTime = s.loopTime := by
  simp only [State.loopTime, State.startStep_phase, State.startStep_cfg]

theorem State.startStep_stall {s : State} (hb : s.phase ≠ .busy) : s.startStep.world.stall = 0 := by
  rw [State.startStep, if_neg hb]; rfl

theorem State.startStep_wdt {s : State} (hb : s.phase ≠ .busy) :
    s.startStep.world.wdt = s.world.wdt + (s.world.stall + s.loopTime) := by
  rw [State.startStep, if_neg hb]; rfl

theorem Phase.stepsToKick_eq {p : Phase} (hb : p ≠ .busy) (h1 : p ≠ .p1) : p.stepsToKick = p.next.stepsToKick + 1 := by
  cases p <;> simp_all [Phase.stepsToKick, Phase.next]

/-! ### The budget -/

/-- A step in the budget whose body `t` leaves no reset on its way, and leaves room for the rest of the iteration, keeps the
budget. -/
theorem State.InBudget.step_of_body {s t : State} {n : Nat} (h : s.InBudget) (hund : s.undisturbed n)
    (hbody : s.startStep.phaseBody Engine.whole = t) (hcalm : t.world.calm = true)
    (hcall : t.world.hostCall = s.startStep.world.hostCall) (hstall : t.world.stall = s.startStep.world.stall)
    (hslack : t.world.wdt + (t.blockingLeft + ((s.world.pending.map Stimulus.stall).take s.phase.next.stepsToKick).sum) ≤
      s.cfg.wdtPeriod) :
    ∃ t, step s = .next t ∧ t.resets = s.resets ∧ t.InBudget := by
  obtain ⟨hshape, hb, hunforced, hfits, -⟩ := h
  obtain ⟨-, hcall', hpending'⟩ := (World.unforced_iff _).mp hunforced
  have hgrows := hbody ▸ Grows.phaseBody s.startStep Engine.whole_good
  have hcfg : t.cfg = s.cfg := hgrows.cfg.trans s.startStep_cfg
  have hpending : t.world.pending = s.world.pending := hgrows.pending.trans s.startStep_pending
  have hphase : t.phase = s.phase.next := by
    rw [← hbody, State.phaseBody_phase _ (by rwa [State.startStep_phase]), State.startStep_phase]
  rw [State.startStep_hostCall] at hcall
  rw [State.startStep_stall hb] at hstall
  refine ⟨t.advance, step_of_undisturbed_body hund hb (fun _ => hcall') hbody hcalm, ?_, ?_, ?_, ?_, ?_, ?_⟩
  · rw [State.advance_resets, hgrows.resets, State.startStep_resets]
  · rwa [State.advance_cfg, hcfg]
  · rw [State.advance_phase, hphase]
    exact Phase.next_ne_busy hb
  · exact State.advance_unforced ((World.unforced_iff _).mpr ⟨hcalm, hcall.trans hcall', hpending ▸ hpending'⟩)
  · rw [State.advance_cfg, hcfg]
    exact State.advance_fits hstall (x := s.world.stall) (by rw [hpending]; exact hfits)
  · rw [State.slack, State.advance_wdt, State.advance_blockingLeft, State.advance_stalls_sum hstall, State.advance_phase,
      State.advance_cfg, hphase, hcfg, hpending]
    exact hslack

/-- Every step keeps the budget: step 1 restores it whole, and each of the others takes off what it spends (rules R178, R242). -/
theorem State.InBudget.step {s : State} (h : s.InBudget) : ∃ t, step s = .next t ∧ t.resets = s.resets ∧ t.InBudget := by
  have hbudget := h
  obtain ⟨hshape, hb, hunforced, hfits, hslack⟩ := h
  obtain ⟨hcalm, -, -⟩ := (World.unforced_iff _).mp hunforced
  rw [World.stalls, State.slack] at hslack
  by_cases h1 : s.phase = .p1
  · have hloop : s.loopTime = 0 := State.loopTime_of_ne_p2 (by simp [h1])
    have hund : s.undisturbed 0 := by
      rw [h1] at hslack
      refine ⟨hcalm, ?_⟩
      simp only [Phase.stepsToKick, List.take_succ_cons, List.take_zero, List.sum_cons, List.sum_nil] at hslack
      rw [State.slack]
      omega
    obtain ⟨hcalm', -⟩ := State.startStep_calm hund
    have hwhole := sum_take_le_of_windowsFit_cons hfits
    refine hbudget.step_of_body hund (State.phaseBody_p1 _ (s.startStep_phase.trans h1)) hcalm' rfl rfl ?_
    rw [h1, State.blockingLeft_p2 rfl]
    show 0 + (s.startStep.cfg.iterPeriod + s.startStep.cfg.worstBlocking +
      ((s.world.pending.map Stimulus.stall).take 7).sum) ≤ _
    rw [State.startStep_cfg]
    omega
  · have hphase := s.startStep_phase
    obtain ⟨n, htakes, hn⟩ := s.startStep.phaseBody_takes (by rwa [State.startStep_cfg]) (by rwa [hphase]) (by rwa [hphase])
    rw [State.startStep_loopTime, State.startStep_blockingLeft] at hn
    rw [Phase.stepsToKick_eq hb h1, List.take_succ_cons, List.sum_cons] at hslack
    have hund : s.undisturbed n := ⟨hcalm, by rw [State.slack]; omega⟩
    obtain ⟨hcalm', hslack'⟩ := State.startStep_calm hund
    refine hbudget.step_of_body hund rfl (htakes.calm hcalm' hslack') htakes.hostCall htakes.stall ?_
    rw [htakes.wdt, State.startStep_wdt hb]
    omega

/-- So does every run. -/
theorem State.InBudget.run (n : Nat) {s : State} (h : s.InBudget) :
    ∃ t, Sys2Proof.core.run n s = .next t ∧ t.resets = s.resets ∧ t.InBudget := by
  induction n generalizing s with
  | zero => exact ⟨s, rfl, rfl, h⟩
  | succ n ih =>
    obtain ⟨t, hstep, hresets, ht⟩ := h.step
    obtain ⟨u, hrun, hresets', hu⟩ := ih ht
    exact ⟨u, (core_run_succ hstep n).trans hrun, hresets'.trans hresets, hu⟩

/-- A reset leaves the budget whole: the counter starts at 0, right before the next service (rules R27, R242). -/
theorem State.afterReset_inBudget {c : Config} {w : World} (hshape : c.frameShape = true) (hcall : w.hostCall = none)
    (hpending : w.pending.all Stimulus.unforced = true) (hfits : w.fits c = true) (n : Nat) (es : List Event) (now : Nat) :
    (State.afterReset c n w es now).InBudget := by
  refine ⟨hshape, nofun, State.afterReset_unforced c n w es now hcall hpending, hfits, ?_⟩
  have hroom := sum_take_of_windowsFit (x := w.stall) (xs := w.pending.map Stimulus.stall) hfits
  rw [List.take_succ_cons, List.sum_cons] at hroom
  show 0 + (0 + (w.stall + 0)) ≤ c.wdtPeriod
  omega

/-! ### A host's call -/

/-- What a host may ask for takes one run of the generator or one frame at most (rules R50, R104, R118, decision D31). -/
theorem State.stepBody_of_hostCall_takes {s : State} {k : Call} (hf : s.cfg.frameShape = true) (hp : s.phase = .p1)
    (hc : s.world.hostCall = some k) (hnec : ∀ f, k = .nec32 f → isNecFrame f = true) :
    ∃ n t, n ≤ 121 * s.cfg.hpPerUnit ∧ s.stepBody = .next t ∧ Takes n s.takeCall t ∧ t.resets = s.resets ∧
      t.phase = .p1 := by
  have hfetch : s.fetch = some k.wire := by simp [State.fetch, hp, hc]
  have hissue : s.issue = s.takeCall := by simp [State.issue, hp]
  have hbody {i : Instr} {t : State} (hd : decode s.cfg k.wire = .ok i) (he : exec i s.takeCall = .next t) :
      s.stepBody = .next t := by
    simp only [State.stepBody, hfetch, hd, hissue, he, hp]
    rfl
  have hburst (u : Units) (x : Sym) : (List.replicate u.toNat x).length * s.cfg.hpPerUnit ≤ 121 * s.cfg.hpPerUnit :=
    Nat.mul_le_mul_right _ (by rw [List.length_replicate]; omega)
  cases k with
  | nec32 f =>
    have hdecode : decodeFrame f = .ok (.transmit (frameA f) (frameC f)) := if_pos (hnec f rfl)
    obtain ⟨g, us, hus⟩ := s.takeCall.transmit_eq_sent (frameA f) (frameC f)
    have htakes := Takes.transmit (s := s.takeCall) hf (frameA f) (frameC f)
    refine ⟨_, _, Nat.le_refl _, hbody hdecode rfl, htakes, ?_, ?_⟩
    · rw [hus]; rfl
    · rw [hus]; exact hp
  | transmitRepeat =>
    have hlength : (repeatUnits s.cfg).length = 21 := by rw [repeatUnits_of_frameShape hf]; rfl
    have hexec : exec .transmitRepeat s.takeCall = .next (s.takeCall.sent s.sr true (repeatUnits s.cfg)) :=
      congrArg Host.Outcome.next s.takeCall.transmitRepeat_eq
    refine ⟨_, _, ?_, hbody rfl hexec, .sent _ _ _ _, rfl, hp⟩
    exact Nat.mul_le_mul_right _ (by rw [hlength]; decide)
  | burst1 u =>
    exact ⟨_, _, hburst u .mark, hbody rfl (congrArg Host.Outcome.next (s.takeCall.burst1_eq u)),
      .played s.takeCall _ _, rfl, hp⟩
  | burst0 u =>
    exact ⟨_, _, hburst u .space, hbody rfl (congrArg Host.Outcome.next (s.takeCall.burst0_eq u)),
      .played s.takeCall _ _, rfl, hp⟩

/-- A host's call that the counter has room for runs to its end (decision D31). -/
theorem step_of_hostCall {s : State} {k : Call} (hf : s.cfg.frameShape = true) (hp : s.phase = .p1)
    (hc : s.world.hostCall = some k) (hnec : ∀ f, k = .nec32 f → isNecFrame f = true) (hcalm : s.world.calm = true)
    (hslack : s.slack (s.world.stall + s.cfg.longestCall)) : ∃ t, step s = .next t ∧ t.resets = s.resets ∧ t.phase = .p1 := by
  obtain ⟨n, t, hn, hbody, htakes, hresets, hphase⟩ := State.stepBody_of_hostCall_takes (s := s.startStep)
    (by rwa [State.startStep_cfg]) (s.startStep_phase.trans hp) (s.startStep_hostCall.trans hc) hnec
  rw [State.startStep_cfg] at hn
  have hloop : s.loopTime = 0 := State.loopTime_of_ne_p2 (by simp [hp])
  have hlongest : 121 * s.cfg.hpPerUnit ≤ s.cfg.longestCall := Nat.le_max_right _ _
  have hund : s.undisturbed n := ⟨hcalm, State.slack_mono hslack (by omega)⟩
  obtain ⟨hcalm', hslack'⟩ := State.startStep_calm hund
  obtain ⟨hrst, htrip⟩ := (World.calm_iff _).mp (htakes.calm hcalm' hslack')
  refine ⟨t.advance, ?_, ?_, ?_⟩
  · rw [step, State.resetDue_of_calm hcalm, hbody, if_neg Bool.false_ne_true]
    exact congrArg (fun u : State => Host.Outcome.next u.advance) (State.conclude_of_calm s t hrst htrip)
  · rw [State.advance_resets, hresets, State.startStep_resets]
  · rw [State.advance_phase, hphase]

/-- Settles O58: each step spends what the budget holds for it, and step 1 restores it. -/
theorem watchdogNeverFires : Obligations.WatchdogNeverFires := by
  refine ⟨fun s h => h.step, fun s n h => h.run n, fun c n w es now hshape hcall hpending hfits =>
    State.afterReset_inBudget hshape hcall hpending hfits n es now, ?_⟩
  rintro s k hp hc hnec ⟨hshape, -, hunforced, -⟩ hslack
  obtain ⟨hcalm, -, -⟩ := (World.unforced_iff _).mp hunforced
  exact step_of_hostCall hshape hp hc hnec hcalm hslack

end Sys2Proof.Machine

/-! PROOFS. A record for the configured address (rule R170), and the idle iteration (rule R160). -/

namespace Sys2Proof.Machine

/-! ### A record for the configured address -/

/-- The LED is lit and its window armed first; then comes one log entry or one frame (rules R170, R171). -/
theorem State.dispatchRecord_of_own {s : State} {r : RcRecord} (hb : r.startbits = s.cfg.startBitsValid)
    (ha : r.addr = s.cfg.remoteAddr) :
    (∃ e, s.dispatchRecord Engine.whole r = s.armLed.emits [.log e]) ∨
      ∃ k, s.dispatchRecord Engine.whole r = s.armLed.transmit s.cfg.necAddr k := by
  unfold State.dispatchRecord
  rw [if_neg (by simp [hb]), if_pos (by simp [ha])]
  dsimp only
  repeat' split
  · exact .inr ⟨_, rfl⟩
  · exact .inr ⟨_, rfl⟩
  · exact .inr ⟨_, rfl⟩
  · exact .inl ⟨_, rfl⟩

/-- What that leaves: the LED lit, its window full, the off-delay as it was, and after the LED's event, log entries aside,
nothing but the infrared pin (rule R170). -/
theorem State.dispatchRecord_of_own_result {s : State} {r : RcRecord} (hb : r.startbits = s.cfg.startBitsValid)
    (ha : r.addr = s.cfg.remoteAddr) :
    (s.dispatchRecord Engine.whole r).led = true ∧ (s.dispatchRecord Engine.whole r).ledt = s.cfg.ledTicks ∧
      (s.dispatchRecord Engine.whole r).offt = s.offt ∧
      ∃ es, (s.dispatchRecord Engine.whole r).trace = s.trace ++ .led true :: es ∧
        ∀ e ∈ observed es, ∃ b n, e = .ir b n := by
  rcases State.dispatchRecord_of_own hb ha with ⟨e, he⟩ | ⟨k, hk⟩
  · rw [he]
    exact ⟨rfl, rfl, rfl, [.log e], by simp, by simp [observed, Event.isLog]⟩
  · obtain ⟨f, us, hus⟩ := s.armLed.transmit_eq_sent s.cfg.necAddr k
    rw [hk, hus]
    refine ⟨rfl, rfl, rfl, us.flatMap (unitEvents s.cfg), by simp, fun e he => ?_⟩
    rw [observed_units] at he
    exact mem_flatMap_unitEvents he

/-- Settles O40: the record is copied and the decoder re-armed, and what the dispatcher then does begins with the LED. -/
theorem ownAddressRecord : Obligations.OwnAddressRecord := by
  intro s r hp hf h hr hb ha
  obtain ⟨hcalm, hslack⟩ := State.startStep_calm h
  have hcfg : (s.startStep.takeRecord r).rearm.cfg = s.cfg := s.startStep_cfg
  have hcalm7 := State.dispatchRecord_calm (s := (s.startStep.takeRecord r).rearm) (by rwa [hcfg])
    ((State.takeRecord_rearm_calm _ r).trans hcalm) (by simpa using hslack) r
  obtain ⟨hled, hledt, hofft, es, htrace, hir⟩ :=
    State.dispatchRecord_of_own_result (s := (s.startStep.takeRecord r).rearm) (by rwa [hcfg]) (by rwa [hcfg])
  have hevents : s.newEvents (((s.startStep.takeRecord r).rearm.dispatchRecord Engine.whole r).setPhase .p1).advance =
      .rcRearm :: .led true :: es := State.newEvents_of_append _ _ _ (by simp [htrace])
  refine ⟨_, step_of_undisturbed_body h (by simp [hp]) (by simp [hp]) (State.phaseBody_of_report hp hr) hcalm7, ?_⟩
  rw [hevents]
  simp only [State.advance_led, State.advance_ledt, State.advance_offt, State.setPhase_led, State.setPhase_ledt,
    State.setPhase_offt]
  exact ⟨hled, hledt.trans (congrArg _ hcfg), hofft.trans s.startStep_offt, rfl, hir⟩

/-! ### The idle iteration -/

/-- The state `s` in an idle pass about to perform step `p`, once the watchdog is serviced and the loop's own time is over: the
last serial poll came to `poll`, the last sample to `b` (rule R160). -/
def State.idling (s : State) (p : Phase) (poll : Option Byte) (b : Bool) : State :=
  { s with
    phase := p, serLat := poll, sampled := b, trace := s.trace ++ [.wdtKick]
    elapsed := s.elapsed + s.cfg.iterPeriod, world := { s.world with wdt := s.cfg.iterPeriod } }

section
variable {s : State} (h : s.idleWorld)
include h

/-- An idle pass has no reset on its way, and nothing of the world's is pending. -/
theorem State.idling_calm (p : Phase) (poll : Option Byte) (b : Bool) : (s.idling p poll b).world.calm = true := by
  obtain ⟨hstill, -⟩ := h
  obtain ⟨hcalm, -⟩ := (World.still_iff _).mp hstill
  exact hcalm

theorem State.idling_advance (p : Phase) (poll : Option Byte) (b : Bool) : (s.idling p poll b).advance = s.idling p poll b := by
  obtain ⟨hstill, -⟩ := h
  obtain ⟨-, -, -, hpending⟩ := (World.still_iff _).mp hstill
  exact State.advance_of_pending_nil _ hpending

/-- But for step 2, its steps start at once. -/
theorem State.idling_startStep {p : Phase} (hp : p ≠ .p2) (poll : Option Byte) (b : Bool) :
    (s.idling p poll b).startStep = s.idling p poll b := by
  obtain ⟨hstill, -⟩ := h
  obtain ⟨-, hstall, -⟩ := (World.still_iff _).mp hstill
  exact State.startStep_of_no_time _ hstall (State.loopTime_of_ne_p2 hp)

/-- A step of an idle pass that leads to the next one. -/
theorem State.runPhases_idling {p q : Phase} {poll poll' : Option Byte} {b b' : Bool} (n : Nat) (hp : p ≠ .p2)
    (hbody : (s.idling p poll b).phaseBody Engine.whole = s.idling q poll' b') :
    State.runPhases (n + 2) (s.idling p poll b) = State.runPhases (n + 1) (s.idling q poll' b') := by
  have hu : (s.idling p poll b).startStep.phaseBody Engine.whole = s.idling q poll' b' := by
    rw [State.idling_startStep h hp, hbody]
  rw [State.runPhases_of_calm n (State.idling_calm h p poll b) (hu ▸ State.idling_calm h q poll' b'), hu,
    State.idling_advance h]

end

section
variable {s : State} (poll : Option Byte) (b : Bool)

/-- Step 4 has no off-delay to count. -/
theorem State.idling_p4 (hofft : s.offt = 0) :
    (s.idling .p4 poll b).phaseBody Engine.whole = s.idling .p5 poll b := by
  rw [State.phaseBody_p4 _ rfl, State.step4_eq, if_pos (show (s.idling .p4 poll b).offt = 0 from hofft)]
  rfl

/-- Step 6 has no window to count. -/
theorem State.idling_p6 (hledt : s.ledt = 0) :
    (s.idling .p6 poll b).phaseBody Engine.whole = s.idling .p7 poll b := by
  rw [State.phaseBody_p6 _ rfl, State.step6_eq, if_pos (show (s.idling .p6 poll b).ledt = 0 from hledt)]
  rfl

variable (h : s.idleWorld)
include h

/-- Step 3 sees no edge. -/
theorem State.idling_p3 :
    (s.idling .p3 poll b).phaseBody Engine.whole = s.idling .p4 poll s.srcSense := by
  obtain ⟨-, -, hsrc, -⟩ := h
  have hlevel : (s.idling .p3 poll b).srcSense = (s.idling .p3 poll b).srcPrev := hsrc
  rw [State.phaseBody_p3 _ rfl, State.step3_of_level _ hlevel, hlevel, hsrc]
  rfl

/-- Step 5 polls an empty mailbox. -/
theorem State.idling_p5 : (s.idling .p5 poll b).phaseBody Engine.whole = s.idling .p6 none b := by
  obtain ⟨-, -, -, hserial, -⟩ := h
  have hempty : ({ s.world with wdt := s.cfg.iterPeriod, serial := none } : World) =
      { s.world with wdt := s.cfg.iterPeriod } := by rw [← hserial]
  have hpoll : (s.idling .p5 poll b).pollSerial = s.idling .p5 none b := by
    rw [State.pollSerial, show (s.idling .p5 poll b).world.serial = none from hserial]
    exact congrArg (fun w : World => { s.idling .p5 none b with world := w }) hempty
  rw [State.phaseBody_p5 _ rfl, State.step5, hpoll]
  rfl

/-- Step 7 has no record. -/
theorem State.idling_p7 : (s.idling .p7 poll b).phaseBody Engine.whole = s.idling .p1 poll b := by
  obtain ⟨-, -, -, -, hrecord⟩ := h
  rw [State.phaseBody_p7 _ rfl, State.step7_of_no_report (s := s.idling .p7 poll b) _ hrecord]
  rfl

end

/-- Steps 1 and 2 of an idle pass: the watchdog is serviced, the loop's own time passes, and the amplifier has not changed. -/
theorem State.runPhases_idle_start {s : State} (h : s.idleWorld) (hroom : s.cfg.iterPeriod ≤ s.cfg.wdtPeriod) :
    State.runPhases 7 (s.setPhase .p1) = State.runPhases 5 (s.idling .p3 s.serLat s.ampSense) := by
  have hidle := h
  obtain ⟨hstill, hamp, -⟩ := h
  obtain ⟨hcalm, hstall, -, hpending⟩ := (World.still_iff _).mp hstill
  have hone : (s.setPhase .p1).startStep.phaseBody Engine.whole = s.kick.setPhase .p2 := by
    rw [State.startStep_of_no_time (s.setPhase .p1) hstall rfl, State.phaseBody_p1 _ rfl]
    rfl
  have hcalm1 : (s.kick.setPhase .p2).world.calm = true := hcalm
  have hstart : (s.kick.setPhase .p2).startStep = s.idling .p2 s.serLat s.sampled := by
    have htick : ({ s.world with wdt := 0, stall := 0 } : World).tick s.cfg.wdtPeriod s.elapsed s.cfg.iterPeriod =
        { s.world with wdt := s.cfg.iterPeriod } := by
      rw [World.tick, if_neg (by simp only; omega), Option.or_none, Nat.zero_add, ← hstall]
    have htime : (s.kick.setPhase .p2).world.stall + (s.kick.setPhase .p2).loopTime = s.cfg.iterPeriod := by
      show s.world.stall + s.cfg.iterPeriod = _
      rw [hstall, Nat.zero_add]
    rw [State.startStep, if_neg nofun, htime]
    exact congrArg (fun w : World => { s.idling .p2 s.serLat s.sampled with world := w }) htick
  have htwo : (s.kick.setPhase .p2).startStep.phaseBody Engine.whole = s.idling .p3 s.serLat s.ampSense := by
    have hlevel : (s.idling .p2 s.serLat s.sampled).ampSense = (s.idling .p2 s.serLat s.sampled).ampPrev := hamp
    rw [hstart, State.phaseBody_p2 _ rfl, State.step2_eq, if_pos hlevel, State.emits_nil, hlevel, hamp]
    rfl
  rw [State.runPhases_of_calm (s := s.setPhase .p1) 5 hcalm (by rwa [hone]), hone,
    State.advance_of_pending_nil (s.kick.setPhase .p2) hpending,
    State.runPhases_of_calm 4 hcalm1 (htwo ▸ State.idling_calm hidle _ _ _), htwo, State.idling_advance hidle]

/-- An idle pass, from its first step to its last (rule R160). -/
theorem State.iterate_of_idle {s : State} (h : s.idleWorld) (hofft : s.offt = 0) (hledt : s.ledt = 0)
    (hroom : s.cfg.iterPeriod ≤ s.cfg.wdtPeriod) : s.iterate = s.idling .p1 none s.srcSense := by
  have hlast : (s.idling .p7 none s.srcSense).startStep.phaseBody Engine.whole = s.idling .p1 none s.srcSense := by
    rw [State.idling_startStep h (by decide), State.idling_p7 _ _ h]
  rw [State.iterate, State.runPhases_idle_start h hroom,
    State.runPhases_idling h 3 (by decide) (State.idling_p3 _ _ h),
    State.runPhases_idling h 2 (by decide) (State.idling_p4 _ _ hofft),
    State.runPhases_idling h 1 (by decide) (State.idling_p5 _ _ h),
    State.runPhases_idling h 0 (by decide) (State.idling_p6 _ _ hledt)]
  exact (State.under_of_calm (State.idling_calm h _ _ _) (hlast ▸ State.idling_calm h _ _ _)).trans hlast

/-- Settles O43: after the service of the watchdog and the loop's own time no step has anything to do. -/
theorem idleIteration : Obligations.IdleIteration := by
  intro s h hp hofft hledt hroom
  refine ⟨s.iterate, rfl, ?_⟩
  rw [State.iterate_of_idle h hofft hledt hroom, State.idling, ← hp]
  exact .withSampled s _ s.srcSense

end Sys2Proof.Machine

/-! PROOFS. Step 2, and that nothing but step 2 reads or writes `AmpPrev` (rules R11, R162). -/

namespace Sys2Proof.Machine

/-! ### Step 2 -/

/-- What step 2 leaves, from the state before its step. -/
theorem State.phaseBody_startStep_p2 {s : State} (hp : s.phase = .p2) : s.startStep.phaseBody Engine.whole =
    State.withSampled
      { s.startStep with
        phase := .p3, ampPrev := s.ampSense
        trace := s.trace ++ (if s.ampSense = s.ampPrev then [] else [.log (.ampState s.ampSense)]) } s.ampSense := by
  have hp' : s.startStep.phase = .p2 := s.startStep_phase.trans hp
  rw [State.phaseBody_p2 _ hp', State.step2_eq, State.startStep_ampSense, State.startStep_ampPrev, ← s.startStep_trace]
  exact State.nextPhase_eq_setPhase
    (s := State.withSampled (State.setAmpPrev (s.startStep.emits _) s.ampSense) s.ampSense) hp'

/-! ### Operations that do not know `AmpPrev` -/

/-- The operation does the same with another value in `AmpPrev`, and keeps that value. -/
def IgnoresAmpPrev (f : State → State) : Prop := ∀ s b, f (s.setAmpPrev b) = (f s).setAmpPrev b

namespace IgnoresAmpPrev

theorem comp {f g : State → State} (hf : IgnoresAmpPrev f) (hg : IgnoresAmpPrev g) : IgnoresAmpPrev (fun s => g (f s)) :=
  fun s b => (congrArg g (hf s b)).trans (hg (f s) b)

/-- A choice that `AmpPrev` does not decide. -/
theorem ite {c : State → Prop} [DecidablePred c] {f g : State → State} (hc : ∀ s b, c (s.setAmpPrev b) ↔ c s)
    (hf : IgnoresAmpPrev f) (hg : IgnoresAmpPrev g) : IgnoresAmpPrev (fun s => if c s then f s else g s) := by
  intro s b
  dsimp only
  by_cases h : c s
  · rw [if_pos h, if_pos ((hc s b).mpr h), hf]
  · rw [if_neg h, if_neg (fun h' => h ((hc s b).mp h')), hg]

theorem id : IgnoresAmpPrev (fun s => s) := fun _ _ => rfl
theorem nextPhase : IgnoresAmpPrev State.nextPhase := fun _ _ => rfl
theorem setOfft (v : Timer) : IgnoresAmpPrev (·.setOfft v) := fun _ _ => rfl
theorem emits (es : List Event) : IgnoresAmpPrev (·.emits es) := fun _ _ => rfl
theorem armLed : IgnoresAmpPrev State.armLed := fun _ _ => rfl

/-! ### The relay and the transmitter -/

theorem ampOn : IgnoresAmpPrev (·.ampOn State.relayPulse) :=
  (ite (c := (·.ampSense = true)) (f := fun s => s.sampleAmp.raise (.redundant true)) (g := fun s => s.sampleAmp.relayPulse)
    (fun _ _ => .rfl) (fun _ _ => rfl) (fun _ _ => rfl)).comp (setOfft 0)

theorem ampOff : IgnoresAmpPrev (·.ampOff State.relayPulse) :=
  (ite (c := (·.ampSense = true)) (f := fun s => s.sampleAmp.relayPulse) (g := fun s => s.sampleAmp.raise (.redundant false))
    (fun _ _ => .rfl) (fun _ _ => rfl) (fun _ _ => rfl)).comp (setOfft 0)

theorem sendBit (bit : Bool) : IgnoresAmpPrev (·.sendBit bit) := by cases bit <;> exact fun _ _ => rfl

theorem foldl_sendBit (bits : List Bool) : IgnoresAmpPrev (bits.foldl State.sendBit) :=
  fun _ b => List.foldl_hom (State.setAmpPrev · b) (fun s bit => sendBit bit s b)

theorem transmit (a k : Byte) : IgnoresAmpPrev (·.transmit a k) := fun s b =>
  congrArg (fun t : State => (t.burst1 s.cfg.endMark).restTransmitter (necFrame a k <<< s.cfg.frameBits.toNat))
    (foldl_sendBit (bitsMsbFirst (necFrame a k) s.cfg.frameBits.toNat)
      (((s.loadFrame (necFrame a k) s.cfg.frameBits false).burst1 s.cfg.leadMark).burst0 s.cfg.leadSpace) b)

/-- An infrared command, by the parameter that holds its byte (rules R150 to R152). -/
theorem command (k : Config → Byte) : IgnoresAmpPrev (fun s => s.transmit s.cfg.necAddr (k s.cfg)) :=
  fun s b => transmit s.cfg.necAddr (k s.cfg) s b

/-! ### The steps of the loop -/

theorem dispatchSerial (p : Option Byte) : IgnoresAmpPrev (·.dispatchSerial Engine.whole p) :=
  .ite (fun _ _ => .rfl) ampOn <| .ite (fun _ _ => .rfl) ampOff <| .ite (fun _ _ => .rfl) (fun _ _ => rfl) <|
    .ite (fun _ _ => .rfl) (command Config.cmdMute) <| .ite (fun _ _ => .rfl) (command Config.cmdVolUp) <|
      .ite (fun _ _ => .rfl) (command Config.cmdVolDown) .id

theorem dispatchRecord (r : RcRecord) : IgnoresAmpPrev (·.dispatchRecord Engine.whole r) :=
  .ite (fun _ _ => .rfl) (fun _ _ => rfl) <| .ite (fun _ _ => .rfl)
    (.ite (fun _ _ => .rfl) (armLed.comp (command Config.cmdVolUp)) <|
      .ite (fun _ _ => .rfl) (armLed.comp (command Config.cmdVolDown)) <|
        .ite (fun _ _ => .rfl) (armLed.comp (command Config.cmdMute)) (armLed.comp (emits _)))
    (emits _)

/-- Step 3, once the source is sampled. -/
theorem step3 : IgnoresAmpPrev (·.step3 Engine.whole) := by
  have hedge : IgnoresAmpPrev (fun t => if srcRise t.srcPrev t.sampled then t.ampOn State.relayPulse
      else if srcFall t.srcPrev t.sampled then t.ampOffDelay else t) :=
    .ite (fun _ _ => .rfl) ampOn <| .ite (fun _ _ => .rfl) (fun _ _ => rfl) .id
  exact fun s b => congrArg (·.setSrcPrev s.srcSense) (hedge s.sampleSrc b)

theorem step4 : IgnoresAmpPrev (·.step4 Engine.whole) :=
  .ite (fun _ _ => .rfl) (.ite (fun _ _ => .rfl) (ampOff.comp (setOfft 0)) (fun _ _ => rfl)) .id

theorem step5 : IgnoresAmpPrev (·.step5 Engine.whole) :=
  fun s b => dispatchSerial s.world.serial s.pollSerial b

theorem step6 : IgnoresAmpPrev State.step6 :=
  .ite (fun _ _ => .rfl) (.ite (fun _ _ => .rfl) (fun _ _ => rfl) (fun _ _ => rfl)) .id

theorem step7 : IgnoresAmpPrev (·.step7 Engine.whole) := by
  intro s b
  dsimp only
  cases hr : s.world.decoder.report with
  | none => rw [State.step7_of_no_report _ hr, State.step7_of_no_report (s := s.setAmpPrev b) _ hr]
  | some r =>
    rw [State.step7_of_report _ hr, State.step7_of_report (s := s.setAmpPrev b) _ hr]
    exact dispatchRecord r (s.takeRecord r).rearm b

/-- Every step of the loop but step 2 (rule R162). -/
theorem phaseBody {s : State} (h : s.phase ≠ .p2) (b : Bool) :
    (s.setAmpPrev b).phaseBody Engine.whole = (s.phaseBody Engine.whole).setAmpPrev b := by
  cases hp : s.phase <;> simp only [State.phaseBody, State.setAmpPrev_phase, hp]
  case p1 => rfl
  case p2 => exact absurd hp h
  case p3 => exact step3.comp nextPhase s b
  case p4 => exact step4.comp nextPhase s b
  case p5 => exact step5.comp nextPhase s b
  case p6 => exact step6.comp nextPhase s b
  case p7 => exact step7.comp nextPhase s b

/-! ### A tick of the clocked machine -/

theorem countTick : IgnoresAmpPrev State.countTick :=
  .ite (fun _ _ => .rfl) (fun _ _ => rfl) <| .ite (fun _ _ => .rfl) (fun _ _ => rfl) (fun _ _ => rfl)

theorem burstDone : IgnoresAmpPrev State.burstDone := by
  intro s b
  have hslot : IgnoresAmpPrev (fun s => if s.bitcnt = 0 then ((s.writeIr false).setTx .endMark).startBurst true s.cfg.endMark
      else ((s.writeIr false).setTx .bitMark).startBurst true s.cfg.bitMark) :=
    .ite (fun _ _ => .rfl) (fun _ _ => rfl) (fun _ _ => rfl)
  cases htx : s.txstate <;> simp only [State.burstDone, State.setAmpPrev_txstate, htx]
  case leadSpace | bitSpace => exact hslot s b
  all_goals rfl

theorem burstTick : IgnoresAmpPrev State.burstTick := by
  have hlevel : IgnoresAmpPrev (fun s => ((s.writeIr (s.mark && !s.half)).emits [.ir (s.mark && !s.half) 1]).wait 1) :=
    fun _ _ => rfl
  have hdone : IgnoresAmpPrev (fun t => if t.unitcnt = 0 then t.burstDone else t) := .ite (fun _ _ => .rfl) burstDone .id
  exact (hlevel.comp countTick).comp hdone

theorem holdTick : IgnoresAmpPrev State.holdTick := by
  have hcount : IgnoresAmpPrev (fun s => ((s.emits [.hold 1]).wait 1).countHold) := fun _ _ => rfl
  have hdone : IgnoresAmpPrev (fun t => if t.holdcnt = 0 then t.endHold.resume else t) :=
    .ite (fun _ _ => .rfl) (fun _ _ => rfl) .id
  exact hcount.comp hdone

theorem clockTick : IgnoresAmpPrev State.clockTick :=
  .ite (fun _ _ => .rfl) holdTick <| .ite (fun _ _ => .rfl) burstTick burstDone

/-! ### Around a step -/

theorem startStep : IgnoresAmpPrev State.startStep := .ite (fun _ _ => .rfl) .id (fun _ _ => rfl)

theorem advance : IgnoresAmpPrev State.advance := by
  intro s b
  unfold State.advance
  rw [State.setAmpPrev_world]
  split <;> rfl

end IgnoresAmpPrev

/-! ### The reset rules -/

section
variable (s : State) (b : Bool)

/-- A reset draws `AmpPrev` anew, so that what it held is lost (rule R27). -/
theorem State.takeReset_setAmpPrev : (s.setAmpPrev b).takeReset = s.takeReset := by
  rw [State.takeReset_eq, State.takeReset_eq]
  rfl

theorem State.cutAt_setAmpPrev (t : State) (n : Nat) : (s.setAmpPrev b).cutAt (t.setAmpPrev b) n = s.cutAt t n := by
  unfold State.cutAt
  simp only [IgnoresAmpPrev.startStep s b, State.setAmpPrev_elapsed, State.takeReset_eq]
  split
  · rfl
  · rfl

/-- The end of a step is the same but for `AmpPrev`. -/
theorem State.conclude_setAmpPrev (t : State) :
    ((s.setAmpPrev b).conclude (t.setAmpPrev b)).setAmpPrev false = (s.conclude t).setAmpPrev false := by
  unfold State.conclude
  rw [State.setAmpPrev_resets, State.setAmpPrev_resets, show (t.setAmpPrev b).nextReset = t.nextReset from rfl,
    State.setAmpPrev_elapsed]
  simp only [State.cutAt_setAmpPrev]
  split
  · rfl
  · split
    · split
      · rfl
      · rfl
    · rfl

/-- So is the step, if its body ignores `AmpPrev`. -/
theorem State.under_setAmpPrev {body : State → State}
    (h : body (s.startStep.setAmpPrev b) = (body s.startStep).setAmpPrev b) :
    ((s.setAmpPrev b).under body).setAmpPrev false = (s.under body).setAmpPrev false := by
  unfold State.under
  rw [IgnoresAmpPrev.startStep s b, h, State.takeReset_setAmpPrev, show (s.setAmpPrev b).resetDue = s.resetDue from rfl]
  split
  · rfl
  · exact s.conclude_setAmpPrev b _

end

/-- Every step but step 2 comes to the same state with another value in `AmpPrev`, but for that value. -/
theorem step_setAmpPrev (s : State) (b : Bool) (hp : s.phase ≠ .p2) (hc : s.phase = .p1 → s.world.hostCall = none) :
    ∃ t u : State, step s = .next t.advance ∧ step (s.setAmpPrev b) = .next u.advance ∧
      u.setAmpPrev false = t.setAmpPrev false := by
  by_cases hb : s.phase = .busy
  · exact ⟨_, _, step_eq_under_of_busy hb, step_eq_under_of_busy (s := s.setAmpPrev b) hb,
      s.under_setAmpPrev b (IgnoresAmpPrev.clockTick _ b)⟩
  · exact ⟨_, _, step_eq_under s hb hc, step_eq_under (s.setAmpPrev b) hb hc,
      s.under_setAmpPrev b (IgnoresAmpPrev.phaseBody (by rwa [State.startStep_phase]) b)⟩

/-- Settles O32: the body is step 2, which takes no time; and no operation but step 2's own reads the register. -/
theorem step2Observes : Obligations.Step2Observes := by
  refine ⟨fun s hp h => ?_, fun s t b hp hc h => ?_⟩
  · obtain ⟨hcalm, -⟩ := State.startStep_calm h
    exact ⟨_, step_of_undisturbed_body h (by simp [hp]) (by simp [hp]) (State.phaseBody_startStep_p2 hp) hcalm,
      .advance_withSampled s _ s.ampSense⟩
  · obtain ⟨u, v, hu, hv, hsame⟩ := step_setAmpPrev s b hp hc
    obtain rfl := Host.Outcome.next.inj (hu.symm.trans h)
    refine ⟨_, hv, ?_⟩
    calc v.advance.setAmpPrev false
      _ = (v.setAmpPrev false).advance := (IgnoresAmpPrev.advance v false).symm
      _ = (u.setAmpPrev false).advance := by rw [hsame]
      _ = u.advance.setAmpPrev false := IgnoresAmpPrev.advance u false

end Sys2Proof.Machine

/-! PROOFS. What one iteration can contain (rules R160, R168, R178): the events of each step counted, and the counts of the seven
steps added up. -/

namespace Sys2Proof.Machine

/-! ### Counting events -/

/-- The events `es` hold so many services of the watchdog, re-arms, LED events and relay pulses, and with the frame shape of rule
R6 they show so many frames on the infrared pin. -/
structure Tally (c : Config) (es : List Event) (kicks rearms leds relays frames : Nat) : Prop where
  kicks : es.count .wdtKick = kicks
  rearms : es.count .rcRearm = rearms
  leds : es.countP (fun e => e == .led true || e == .led false) = leds
  relays : pulses es = relays
  frames : c.frameShape = true → (pinLevel es).length = frames * (121 * c.hpPerUnit)

namespace Tally

variable (c : Config)

theorem append {c : Config} {es es' : List Event} {k r l p f k' r' l' p' f' : Nat} (h : Tally c es k r l p f)
    (h' : Tally c es' k' r' l' p' f') : Tally c (es ++ es') (k + k') (r + r') (l + l') (p + p') (f + f') where
  kicks := by rw [List.count_append, h.kicks, h'.kicks]
  rearms := by rw [List.count_append, h.rearms, h'.rearms]
  leds := by rw [List.countP_append, h.leds, h'.leds]
  relays := by rw [pulses_append, h.relays, h'.relays]
  frames hf := by rw [pinLevel_append, List.length_append, h.frames hf, h'.frames hf, Nat.add_mul]

/-- Log entries count for nothing. -/
theorem log {es : List Event} (h : ∀ e ∈ es, e.isLog = true) : Tally c es 0 0 0 0 0 where
  kicks := List.count_eq_zero.mpr fun hmem => Bool.false_ne_true (h _ hmem)
  rearms := List.count_eq_zero.mpr fun hmem => Bool.false_ne_true (h _ hmem)
  leds := List.countP_eq_zero.mpr fun e he hled => by
    have hlog := h e he
    cases e <;> simp_all [Event.isLog]
  relays := pulses_of_log h
  frames _ := by rw [pinLevel_of_log h, Nat.zero_mul]; rfl

theorem kick : Tally c [.wdtKick] 1 0 0 0 0 := ⟨rfl, rfl, rfl, rfl, fun _ => (Nat.zero_mul _).symm⟩
theorem rearm : Tally c [.rcRearm] 0 1 0 0 0 := ⟨rfl, rfl, rfl, rfl, fun _ => (Nat.zero_mul _).symm⟩
theorem led (b : Bool) : Tally c [.led b] 0 0 1 0 0 := ⟨rfl, rfl, by cases b <;> rfl, rfl, fun _ => (Nat.zero_mul _).symm⟩
theorem pulse : Tally c (pulseEvents c) 0 0 0 1 0 := ⟨rfl, rfl, rfl, rfl, fun _ => (Nat.zero_mul _).symm⟩

/-- A frame is on the infrared pin only. -/
theorem frame {us : List Sym} (h : c.frameShape = true → us.length = 121) :
    Tally c (us.flatMap (unitEvents c)) 0 0 0 0 1 where
  kicks := List.count_eq_zero.mpr fun hmem => by
    obtain ⟨b, n, he⟩ := mem_flatMap_unitEvents hmem
    cases he
  rearms := List.count_eq_zero.mpr fun hmem => by
    obtain ⟨b, n, he⟩ := mem_flatMap_unitEvents hmem
    cases he
  leds := List.countP_eq_zero.mpr fun e hmem => by
    obtain ⟨b, n, rfl⟩ := mem_flatMap_unitEvents hmem
    simp
  relays := pulses_units c us
  frames hf := by rw [length_pinLevel_units, h hf, Nat.one_mul]

end Tally

/-- On the way from `s` to `t` events with these counts are emitted. -/
structure Emits (s t : State) (kicks rearms leds relays frames : Nat) : Prop where
  cfg : t.cfg = s.cfg
  events : ∃ es, t.trace = s.trace ++ es ∧ Tally s.cfg es kicks rearms leds relays frames

namespace Emits

theorem trans {s t u : State} {k r l p f k' r' l' p' f' : Nat} (h : Emits s t k r l p f) (h' : Emits t u k' r' l' p' f') :
    Emits s u (k + k') (r + r') (l + l') (p + p') (f + f') := by
  obtain ⟨hc, es, hes, htally⟩ := h
  obtain ⟨hc', fs, hfs, htally'⟩ := h'
  rw [hc] at htally'
  exact ⟨hc'.trans hc, es ++ fs, by rw [hfs, hes, List.append_assoc], htally.append htally'⟩

/-- Where the parameters and the trace are the same, so is what is emitted. -/
theorem congr {s s' t t' : State} {k r l p f : Nat} (h : Emits s t k r l p f) (hs : s'.cfg = s.cfg) (hs' : s'.trace = s.trace)
    (ht : t'.cfg = t.cfg) (ht' : t'.trace = t.trace) : Emits s' t' k r l p f := by
  obtain ⟨hc, es, hes, htally⟩ := h
  exact ⟨ht.trans (hc.trans hs.symm), es, by rw [ht', hs', hes], hs ▸ htally⟩

variable (s : State)

theorem log {es : List Event} (h : ∀ e ∈ es, e.isLog = true) : Emits s (s.emits es) 0 0 0 0 0 := ⟨rfl, es, rfl, .log _ h⟩

theorem nothing : Emits s s 0 0 0 0 0 := ⟨rfl, [], (List.append_nil _).symm, .log _ nofun⟩

theorem rearm (r : RcRecord) : Emits s (s.takeRecord r).rearm 0 1 0 0 0 := ⟨rfl, _, rfl, .rearm _⟩

theorem armLed : Emits s s.armLed 0 0 1 0 0 := ⟨rfl, _, rfl, .led _ true⟩

theorem transmit (a k : Byte) : Emits s (s.transmit a k) 0 0 0 0 1 := by
  by_cases hf : s.cfg.frameShape = true
  · rw [State.transmit_of_frameShape hf]
    exact ⟨rfl, _, rfl, .frame _ fun _ => length_commandUnits hf a k⟩
  · obtain ⟨f, us, hus⟩ := s.transmit_eq_sent a k
    rw [hus]
    exact ⟨rfl, _, rfl, .frame _ fun h => absurd h hf⟩

/-- An operation on the relay and the off-delay emits log entries, or one pulse and leaves the off-delay cancelled (rule R145). -/
theorem ampEffect {s t : State} (h : AmpEffect s t) : Emits s t 0 0 0 0 0 ∨ Emits s t 0 0 0 1 0 ∧ t.offt = 0 := by
  cases h with
  | quiet es v b hes => exact .inl ((log s hes).congr rfl rfl rfl rfl)
  | pulse b => exact .inr ⟨⟨rfl, _, rfl, .pulse _⟩, rfl⟩

/-- A serial command emits one pulse or one frame at most (rule R165). -/
theorem dispatchSerial (poll : Option Byte) :
    ∃ p f, Emits s (s.dispatchSerial Engine.whole poll) 0 0 0 p f ∧ p + f ≤ 1 := by
  rcases s.dispatchSerial_cases poll with heffect | ⟨k, hk⟩
  · rcases ampEffect heffect with h | ⟨h, -⟩
    · exact ⟨0, 0, h, by decide⟩
    · exact ⟨1, 0, h, by decide⟩
  · rw [hk]
    exact ⟨0, 1, transmit s _ _, by decide⟩

/-- A record lights the LED once at most, and sends one frame at most (rules R169 to R172). -/
theorem dispatchRecord (r : RcRecord) :
    ∃ l f, Emits s (s.dispatchRecord Engine.whole r) 0 0 l 0 f ∧ l ≤ 1 ∧ f ≤ 1 := by
  have hlog (u : State) (e : LogEntry) : Emits u (u.emits [.log e]) 0 0 0 0 0 := log u (by simp [Event.isLog])
  rcases s.dispatchRecord_cases r with ⟨e, he⟩ | ⟨e, he⟩ | ⟨k, hk⟩
  · rw [he]
    exact ⟨0, 0, hlog s e, by decide, by decide⟩
  · rw [he]
    exact ⟨1, 0, (armLed s).trans (hlog s.armLed e), by decide, by decide⟩
  · rw [hk]
    exact ⟨1, 1, (armLed s).trans (transmit s.armLed _ _), by decide, by decide⟩

/-! ### The seven steps -/

theorem step2 : Emits s s.step2 0 0 0 0 0 := by
  obtain ⟨es, hlog, he⟩ := s.step2_logs
  rw [he]
  exact (log s hlog).congr rfl rfl rfl rfl

/-- A pulse in step 3 cancels the off-delay, so that step 4 has none (rules R145, R178). -/
theorem step3 : ∃ p, Emits s (s.step3 Engine.whole) 0 0 0 p 0 ∧
    p + (if (s.step3 Engine.whole).offt = 1 then 1 else 0) ≤ 1 := by
  obtain ⟨u, hu, he⟩ := AmpEffect.step3 s
  rw [he, State.setSrcPrev_offt]
  rcases ampEffect hu with h | ⟨h, hofft⟩
  · exact ⟨0, h.congr rfl rfl rfl rfl, by split <;> decide⟩
  · exact ⟨1, h.congr rfl rfl rfl rfl, by rw [hofft]; decide⟩

/-- Step 4 pulses only where the off-delay fires (rule R164). -/
theorem step4 : ∃ p, Emits s (s.step4 Engine.whole) 0 0 0 p 0 ∧ p ≤ if s.offt = 1 then 1 else 0 := by
  by_cases h1 : s.offt = 1
  · rw [if_pos h1]
    rcases ampEffect (AmpEffect.step4 s) with h | ⟨h, -⟩
    · exact ⟨0, h, by decide⟩
    · exact ⟨1, h, by decide⟩
  · rw [State.step4_eq, if_neg h1, if_neg h1]
    refine ⟨0, (nothing s).congr rfl rfl ?_ ?_, Nat.zero_le _⟩ <;> split <;> rfl

theorem step5 : ∃ p f, Emits s (s.step5 Engine.whole) 0 0 0 p f ∧ p + f ≤ 1 := by
  obtain ⟨p, f, h, hpf⟩ := dispatchSerial s.pollSerial s.pollSerial.serLat
  exact ⟨p, f, h.congr rfl rfl rfl rfl, hpf⟩

theorem step6 : ∃ l, Emits s s.step6 0 0 l 0 0 ∧ l ≤ 1 := by
  rw [State.step6_eq]
  split
  · exact ⟨0, nothing s, by decide⟩
  · split
    · exact ⟨1, ⟨rfl, _, rfl, .led _ false⟩, by decide⟩
    · exact ⟨0, (nothing s).congr rfl rfl rfl rfl, by decide⟩

theorem step7 : ∃ r l f, Emits s (s.step7 Engine.whole) 0 r l 0 f ∧ r ≤ 1 ∧ l ≤ 1 ∧ f ≤ 1 := by
  cases hr : s.world.decoder.report with
  | none =>
    rw [State.step7_of_no_report _ hr]
    exact ⟨0, 0, 0, nothing s, by decide, by decide, by decide⟩
  | some record =>
    obtain ⟨l, f, h, hl, hf⟩ := dispatchRecord (s.takeRecord record).rearm record
    rw [State.step7_of_report _ hr]
    exact ⟨_, _, _, (rearm s record).trans h, by omega, by omega, by omega⟩

/-- A step of a pass emits what its body does: the world moving on and the time before the step emit nothing. -/
theorem onward {s t : State} {k r l p f : Nat} (hbody : s.onward = t.nextPhase)
    (h : Emits s.advance.startStep t k r l p f) : Emits s s.onward k r l p f := by
  rw [hbody]
  exact h.congr (by simp) (by simp) rfl rfl

end Emits

/-! ### A pass that no reset ends -/

/-- A step that no reset took over ran its body. -/
theorem State.under_of_resets_eq {s : State} {body : State → State} (hc : (body s.startStep).cfg = s.cfg)
    (h : (s.under body).resets = s.resets) : s.under body = body s.startStep := by
  rcases s.under_cases body hc with he | ⟨u, he, -, hle⟩
  · exact he
  · rw [he, State.enterReset_resets] at h
    omega

/-- A pass of `n + 1` steps that no reset ends is its first step, and the world moving on and the next step, `n` times. -/
theorem State.runPhases_of_resets_eq (n : Nat) {s : State} (h : (State.runPhases (n + 1) s).resets = s.resets) :
    State.runPhases (n + 1) s = State.onward^[n] (s.startStep.phaseBody Engine.whole) := by
  have hc (s : State) : (s.startStep.phaseBody Engine.whole).cfg = s.cfg :=
    (Grows.phaseBody s.startStep Engine.whole_good).cfg.trans s.startStep_cfg
  induction n generalizing s with
  | zero => exact State.under_of_resets_eq (hc s) h
  | succ n ih =>
    by_cases hk : (s.under (fun b => b.phaseBody Engine.whole)).resets = s.resets
    · have hrun : State.runPhases (n + 2) s =
          State.runPhases (n + 1) (s.under (fun b => b.phaseBody Engine.whole)).advance := if_pos hk
      have hbody := State.under_of_resets_eq (hc s) hk
      rw [hbody] at hrun hk
      rw [hrun] at h ⊢
      exact ih (by rw [h, State.advance_resets, hk])
    · have hrun : State.runPhases (n + 2) s = s.under (fun b => b.phaseBody Engine.whole) := if_neg hk
      exact absurd (hrun ▸ h) hk

theorem State.onward_phase {s : State} (hb : s.phase ≠ .busy) : s.onward.phase = s.phase.next := by
  rw [State.onward, State.phaseBody_phase _ (by simpa using hb), State.startStep_phase, State.advance_phase]

/-- Steps 2 to 7 of a pass: at most one re-arm, two LED events and two pulses, and two frames, one if there are two pulses
(rule R178). -/
theorem Emits.afterKick {s : State} (hp : s.phase = .p2) :
    ∃ r l p f, Emits s (State.onward^[6] s) 0 r l p f ∧ r ≤ 1 ∧ l ≤ 2 ∧ p ≤ 2 ∧ f ≤ 2 ∧ p + f ≤ 3 := by
  have hnext {u : State} {q : Phase} (hq : u.phase = q) (hb : q ≠ .busy) : u.onward.phase = q.next :=
    (State.onward_phase (hq ▸ hb)).trans (congrArg _ hq)
  have hp3 := hnext hp (by decide)
  have hp4 := hnext hp3 (by decide)
  have hp5 := hnext hp4 (by decide)
  have hp6 := hnext hp5 (by decide)
  have hp7 := hnext hp6 (by decide)
  have hstart {u : State} {q : Phase} (hq : u.phase = q) : u.advance.startStep.phase = q := by simpa using hq
  have hbody3 : s.onward.onward = (s.onward.advance.startStep.step3 Engine.whole).nextPhase := State.phaseBody_p3 _ (hstart hp3)
  have h2 := Emits.onward (State.phaseBody_p2 _ (hstart hp)) (.step2 _)
  obtain ⟨p3, h3, hle3⟩ := Emits.step3 s.onward.advance.startStep
  obtain ⟨p4, h4, hle4⟩ := Emits.step4 s.onward.onward.advance.startStep
  obtain ⟨p5, f5, h5, hle5⟩ := Emits.step5 s.onward.onward.onward.advance.startStep
  obtain ⟨l6, h6, hle6⟩ := Emits.step6 s.onward.onward.onward.onward.advance.startStep
  obtain ⟨r7, l7, f7, h7, hr7, hl7, hf7⟩ := Emits.step7 s.onward.onward.onward.onward.onward.advance.startStep
  have hall := ((((h2.trans (h3.onward hbody3)).trans (h4.onward (State.phaseBody_p4 _ (hstart hp4)))).trans
    (h5.onward (State.phaseBody_p5 _ (hstart hp5)))).trans (h6.onward (State.phaseBody_p6 _ (hstart hp6)))).trans
    (h7.onward (State.phaseBody_p7 _ (hstart hp7)))
  have hofft : s.onward.onward.advance.startStep.offt = (s.onward.advance.startStep.step3 Engine.whole).offt := by
    rw [State.startStep_offt, State.advance_offt, hbody3, State.nextPhase_offt]
  rw [hofft] at hle4
  exact ⟨_, _, _, _, hall, by omega, by omega, by omega, by omega, by omega⟩

/-- An iteration that no reset ends emits the service of the watchdog, and then what steps 2 to 7 do (rules R160, R161). -/
theorem State.iterate_events {s : State} (h : s.iterate.resets = s.resets) :
    ∃ es r l p f, s.newEvents s.iterate = .wdtKick :: es ∧ Tally s.cfg es 0 r l p f ∧ r ≤ 1 ∧ l ≤ 2 ∧ p ≤ 2 ∧ f ≤ 2 ∧
      p + f ≤ 3 := by
  have hpass : s.iterate = State.onward^[6] ((s.setPhase .p1).startStep.kick.setPhase .p2) := by
    rw [State.iterate, State.runPhases_of_resets_eq 6 h, State.phaseBody_p1 _ (s.setPhase .p1).startStep_phase]
  obtain ⟨r, l, p, f, ⟨-, es, hes, htally⟩, hr, hl, hp, hf, hpf⟩ :=
    Emits.afterKick (s := (s.setPhase .p1).startStep.kick.setPhase .p2) rfl
  refine ⟨es, r, l, p, f, ?_, ?_, hr, hl, hp, hf, hpf⟩
  · exact State.newEvents_of_append _ _ _ (by rw [hpass, hes]; simp)
  · simpa using htally

/-- So many pulses and frames take the longest blocking time at most (rule R178). -/
theorem blocking_le_worstBlocking (c : Config) {p f : Nat} (hp : p ≤ 2) (hf : f ≤ 2) (hpf : p + f ≤ 3) :
    p * c.relayHold.toNat + f * (121 * c.hpPerUnit) ≤ c.worstBlocking := by
  have htwo : 2 * c.relayHold.toNat + 121 * c.hpPerUnit ≤ c.worstBlocking := Nat.le_max_left _ _
  have hone : c.relayHold.toNat + 2 * (121 * c.hpPerUnit) ≤ c.worstBlocking := Nat.le_max_right _ _
  by_cases h2 : p = 2
  · subst h2
    have hframe := Nat.mul_le_mul_right (121 * c.hpPerUnit) (show f ≤ 1 by omega)
    omega
  · have hpulse := Nat.mul_le_mul_right c.relayHold.toNat (show p ≤ 1 by omega)
    have hframe := Nat.mul_le_mul_right (121 * c.hpPerUnit) hf
    omega

/-- Settles O44: the counts of the seven steps, added up. -/
theorem iterationContents : Obligations.IterationContents := by
  intro s t h hresets
  obtain rfl := Host.Outcome.next.inj h
  obtain ⟨es, r, l, p, f, hevents, htally, hr, hl, hp, hf, hpf⟩ := State.iterate_events hresets
  have hwhole := (Tally.kick s.cfg).append htally
  rw [hevents]
  refine ⟨rfl, hwhole.kicks, ?_, ?_, ?_, fun hshape => ?_⟩
  · exact hwhole.rearms.trans_le (by omega)
  · exact hwhole.leds.trans_le (by omega)
  · exact hwhole.relays.trans_le (by omega)
  · have hpin : (pinLevel (.wdtKick :: es)).length = f * (121 * s.cfg.hpPerUnit) :=
      (hwhole.frames hshape).trans (by rw [Nat.zero_add])
    have hpulses : pulses (.wdtKick :: es) = p := hwhole.relays.trans (Nat.zero_add p)
    rw [hpin, hpulses]
    refine ⟨Nat.mul_le_mul_right _ hf, fun h2 => ?_, blocking_le_worstBlocking s.cfg hp hf hpf⟩
    exact (Nat.mul_le_mul_right _ (show f ≤ 1 by omega)).trans (Nat.one_mul _).le

end Sys2Proof.Machine

/-! PROOFS. A stall past the watchdog's period (rules R202, R204, R210): the moment at which the counter passed stays known to
the end of the step, and the reset at that moment comes before the step's body begins. -/

namespace Sys2Proof.Machine

/-! ### A watchdog that has passed its period -/

/-- Time that passes later does not change the moment at which the counter passed its period (log entry 8). -/
theorem World.tick_wdtTrip_of_some {w : World} {m : Nat} (h : w.wdtTrip = some m) (period now n : Nat) :
    (w.tick period now n).wdtTrip = some m := by
  rw [World.tick, h]
  rfl

/-- The moment at which a stretch of time brings the counter past its period (rules R202, R210). -/
theorem World.tick_wdtTrip_of_passes {w : World} {period n : Nat} (htrip : w.wdtTrip = none) (hle : w.wdt ≤ period)
    (hpass : period < w.wdt + n) (now : Nat) :
    (w.tick period now n).wdtTrip = some (now + (period - w.wdt)) := by
  rw [World.tick, htrip, if_pos ⟨hle, hpass⟩]
  rfl

section
variable {s : State} {m : Nat} (h : s.world.wdtTrip = some m)
include h

theorem AmpEffect.wdtTrip {t : State} (ht : AmpEffect s t) : t.world.wdtTrip = some m := by
  cases ht with
  | quiet => exact h
  | pulse => exact World.tick_wdtTrip_of_some h _ _ _

theorem State.transmit_wdtTrip (a k : Byte) : (s.transmit a k).world.wdtTrip = some m := by
  obtain ⟨f, us, hsent⟩ := s.transmit_eq_sent a k
  rw [hsent]
  exact World.tick_wdtTrip_of_some h _ _ _

theorem State.dispatchSerial_wdtTrip (p : Option Byte) : (s.dispatchSerial Engine.whole p).world.wdtTrip = some m := by
  rcases s.dispatchSerial_cases p with heffect | ⟨k, hk⟩
  · exact heffect.wdtTrip h
  · rw [hk]
    exact State.transmit_wdtTrip h _ _

theorem State.dispatchRecord_wdtTrip (r : RcRecord) : (s.dispatchRecord Engine.whole r).world.wdtTrip = some m := by
  rcases s.dispatchRecord_cases r with ⟨e, he⟩ | ⟨e, he⟩ | ⟨k, he⟩ <;> rw [he]
  · exact h
  · exact h
  · exact State.transmit_wdtTrip (s := s.armLed) h _ _

/-- Not even the service of the watchdog in step 1 takes back that its counter has passed the period. -/
theorem State.phaseBody_wdtTrip : (s.phaseBody Engine.whole).world.wdtTrip = some m := by
  cases hp : s.phase
  case p1 => rw [State.phaseBody_p1 _ hp]; exact h
  case p2 => rw [State.phaseBody_p2 _ hp, State.step2_eq]; exact h
  case p3 =>
    obtain ⟨u, hu, he⟩ := AmpEffect.step3 s
    rw [State.phaseBody_p3 _ hp, he]
    exact hu.wdtTrip h
  case p4 => rw [State.phaseBody_p4 _ hp]; exact (AmpEffect.step4 s).wdtTrip h
  case p5 => rw [State.phaseBody_p5 _ hp]; exact State.dispatchSerial_wdtTrip (s := s.pollSerial) h _
  case p6 => rw [State.phaseBody_p6 _ hp]; exact (congrArg World.wdtTrip s.step6_world).trans h
  case p7 =>
    rw [State.phaseBody_p7 _ hp]
    cases hr : s.world.decoder.report with
    | none => rw [State.step7_of_no_report _ hr]; exact h
    | some r => rw [State.step7_of_report _ hr]; exact State.dispatchRecord_wdtTrip (s := (s.takeRecord r).rearm) h r
  case busy => rw [State.phaseBody, hp]; exact h

end

/-! ### The stall -/

theorem State.startStep_elapsed {s : State} (hb : s.phase ≠ .busy) :
    s.startStep.elapsed = s.elapsed + (s.world.stall + s.loopTime) := by
  rw [State.startStep, if_neg hb]
  rfl

@[simp] theorem State.startStep_rstAt (s : State) : s.startStep.world.rstAt = s.world.rstAt := by
  unfold State.startStep
  split <;> rfl

/-- A stall past the period passes it in the step's start (log entry 8). -/
theorem State.startStep_wdtTrip_of_passes {s : State} (hb : s.phase ≠ .busy) (htrip : s.world.wdtTrip = none)
    (hle : s.world.wdt ≤ s.cfg.wdtPeriod) (hpass : s.cfg.wdtPeriod < s.world.wdt + s.world.stall) :
    s.startStep.world.wdtTrip = some (s.elapsed + (s.cfg.wdtPeriod - s.world.wdt)) := by
  have hpass' : s.cfg.wdtPeriod < s.world.wdt + (s.world.stall + s.loopTime) := by omega
  rw [State.startStep, if_neg hb]
  exact World.tick_wdtTrip_of_passes (w := { s.world with stall := 0 }) htrip hle hpass' s.elapsed

@[simp] theorem State.enterReset_wdt (s : State) : s.enterReset.world.wdt = 0 := rfl

/-- A cut while the collaborators' time still runs resets the state that the step began in, at that moment (rule R233, log
entry 16). -/
theorem State.cutAt_of_stall {s t : State} {n : Nat} (hn : n < s.startStep.elapsed) :
    ∃ u : State, s.cutAt t n = u.enterReset ∧ u.resets = s.resets ∧ u.elapsed = n := by
  unfold State.cutAt
  rw [if_pos hn]
  exact ⟨_, State.takeReset_eq _, rfl, rfl⟩

/-- Settles O57: whatever the body would have done, the moment at which the counter passed lies before it. -/
theorem hangResets : Obligations.HangResets := by
  intro s hb hcall hcalm hle hpass
  obtain ⟨hrst, htrip⟩ := (World.calm_iff _).mp hcalm
  have hgrows := Grows.phaseBody s.startStep Engine.whole_good
  have hmoment := State.phaseBody_wdtTrip (State.startStep_wdtTrip_of_passes hb htrip hle hpass)
  have hbefore : s.elapsed + (s.cfg.wdtPeriod - s.world.wdt) < s.startStep.elapsed := by
    rw [State.startStep_elapsed hb]
    omega
  have hnext : (s.startStep.phaseBody Engine.whole).nextReset = some (s.elapsed + (s.cfg.wdtPeriod - s.world.wdt)) := by
    rw [State.nextReset, hgrows.rstAt, s.startStep_rstAt, hrst, hmoment]
  have hcut : s.conclude (s.startStep.phaseBody Engine.whole) =
      s.cutAt (s.startStep.phaseBody Engine.whole) (s.elapsed + (s.cfg.wdtPeriod - s.world.wdt)) := by
    rw [State.conclude, if_neg (not_not.mpr (hgrows.resets.trans s.startStep_resets)), hnext]
    exact if_pos (hbefore.trans_le hgrows.elapsed)
  obtain ⟨u, hu, hresets, helapsed⟩ := State.cutAt_of_stall (t := s.startStep.phaseBody Engine.whole) hbefore
  have hstep : step s = .next u.enterReset.advance := by
    rw [step_eq_under s hb (fun _ => hcall), State.under, State.resetDue_of_calm hcalm, if_neg Bool.false_ne_true, hcut, hu]
  exact ⟨u.enterReset.advance, hstep, by simp [hresets, helapsed]⟩

end Sys2Proof.Machine
